-- ==== Sys2Proof/Word.lean ====
section
/-! DEFINITION. The plainest types of the model: a byte of the host line, and a sparse table by number. -/

namespace Sys2Proof

/-- A byte as the host line carries it (spec 11.1): eight data bits. -/
abbrev Byte := BitVec 8

/-- A table of records by number, kept sparse: pairs of a number and its record, numbers rising.
A number that is not listed has no record, or the value its reader names as the default. -/
abbrev Tab (α : Type) := List (Nat × α)

end Sys2Proof
end

