-- ==== Sys2Proof/Syntax.lean ====
section
/-! DEFINITION. The syntax: the layout tables of spec chapter 1, the field loop frames of chapter 2, and `Instr`,
the commands of spec/opcode_table.json (one constructor per row). Meaning is in Machine/ alone. -/

namespace Sys2Proof

/-! ## Names with a fixed set of values -/

/-- The lie of a point (spec, Terms). -/
inductive Lie where
  | normal | reverse
  deriving DecidableEq, Repr

/-- The two ends of a track piece (1.4). -/
inductive TrackEnd where
  | a | b
  deriving DecidableEq, Repr

/-- The two ends of the deck (R6). -/
inductive DeckEnd where
  | end1 | end2
  deriving DecidableEq, Repr

/-- The end asked for by a TABLE_MOVE or a TURN_TABLE step (R132, 1.11). -/
inductive DeckEndAsked where
  | end1 | end2 | either
  deriving DecidableEq, Repr

/-- Which deck ends may be brought to face a road (1.10). -/
inductive EndsAllowed where
  | end1 | end2 | both
  deriving DecidableEq, Repr

/-- Kind of a field node (1.3); `absent` is the manual's NONE. -/
inductive NodeKind where
  | absent | detect | point | signal | panel | board
  deriving DecidableEq, Repr

/-- Kind of a track piece (1.4). -/
inductive TrackKind where
  | plain | deck | road
  deriving DecidableEq, Repr

/-- What lies beyond one end of a track piece (1.4, R5). -/
inductive Link where
  /-- NONE: open track with no onward link. -/
  | open
  /-- BUFFER: a buffer stop. -/
  | buffer
  /-- SECTION(t): plain junction with the track piece `t`. -/
  | track (t : Nat)
  /-- POINT(p, n, r): the toe of point `p`, dividing to `n` and `r`. -/
  | point (p n r : Nat)
  /-- TABLE e: the turntable pit edge; 0 on a road, 1 and 2 on the deck. -/
  | table (e : Nat)
  deriving DecidableEq, Repr

/-- Type of a point motor (1.5). -/
inductive DriveKind where
  | solenoid | motor
  deriving DecidableEq, Repr

/-- Aspects a head can show (1.6). -/
inductive SignalKind where
  | main2 | main3 | main4 | shunt
  deriving DecidableEq, Repr

/-- Kind of movement a route authorises (1.7). -/
inductive RouteClass where
  | main | shunt | callOn
  deriving DecidableEq, Repr

/-- Role of a point in a route (1.7). -/
inductive Role where
  | path | flank | overlap
  deriving DecidableEq, Repr

/-- Whether visitor scripts may act in a district (1.8). -/
inductive VisitorClass where
  | closed | opened | openUnattended
  deriving DecidableEq, Repr

/-- A direction of the deck (1.9). -/
inductive Turn where
  | cw | ccw
  deriving DecidableEq, Repr

/-- What a signal shows, from most to least restrictive (Terms: Aspect). -/
inductive Aspect where
  | danger | callOn | shunt | caution | prelimCaution | clear
  deriving DecidableEq, Repr

/-! ## Layout table records (chapter 1) -/

/-- GENERAL (1.2). Times in the field's own unit. -/
structure GeneralRec where
  occupyCount : Nat := 2
  clearCount : Nat := 4
  replyWindow : Nat := 3
  driveBudget : Nat := 2
  rechargeMs : Nat := 400
  heldDefault : Nat := 120
  visitorWaitLimit : Nat := 180
  dwell : Nat := 8
  visitorAtStart : Bool := false
  deriving DecidableEq, Repr

/-- NODE (1.3). -/
structure NodeRec where
  kind : NodeKind := .absent
  deriving DecidableEq, Repr

/-- SECTION (1.4). -/
structure TrackRec where
  district : Nat
  detNode : Nat
  detInput : Nat
  kind : TrackKind := .plain
  endA : Link := .open
  endB : Link := .open
  deriving DecidableEq, Repr

/-- POINT (1.5). `pulseCode` is present with SOLENOID alone; `throwLimit` counts tenths of a second. -/
structure PointRec where
  district : Nat
  drvNode : Nat
  drvChan : Nat
  driveKind : DriveKind := .solenoid
  pulseCode : Option Nat := some 2
  throwLimit : Nat := 30
  track : Nat
  deriving DecidableEq, Repr

/-- SIGNAL (1.6). -/
structure SignalRec where
  district : Nat
  headNode : Nat
  head : Nat
  kind : SignalKind := .main3
  callOnHead : Bool := false
  deriving DecidableEq, Repr

/-- A requirement entry of a route (1.7). -/
structure Requirement where
  point : Nat
  lie : Lie
  role : Role
  release : Nat
  deriving DecidableEq, Repr

/-- ROUTE (1.7). Exit 0 is BUFFER. Times in seconds. -/
structure RouteRec where
  cls : RouteClass := .main
  entry : Nat
  exit : Nat
  path : List Nat
  reqs : List Requirement := []
  overlap : List Nat := []
  deck : Option (Nat × DeckEnd) := none
  approach : List Nat := []
  approachTime : Nat := 60
  overlapTime : Nat := 30
  deriving DecidableEq, Repr

/-- DISTRICT (1.8): the stored form. -/
structure DistrictRec where
  owner : Nat := 0
  shared : Bool := false
  visitorClass : VisitorClass := .closed
  deriving DecidableEq, Repr

/-- TURNTABLE (1.9). `boltLimit` counts tenths of a second and is present with a bolt alone. -/
structure TurntableRec where
  fullSteps : Nat
  microShift : Nat := 0
  indexOffset : Nat := 0
  slipTolerance : Nat := 8
  backlash : Nat := 0
  rampSteps : Nat := 100
  startRate : Nat := 200
  topRate : Nat := 800
  preferredDir : Turn := .cw
  windingLimit : Nat := 0
  settleMs : Nat := 300
  boltPresent : Bool := false
  boltLimit : Option Nat := none
  homeAttempts : Nat := 3
  deriving DecidableEq, Repr

/-- ROAD (1.10). `position` counts full steps. -/
structure RoadRec where
  position : Nat
  track : Nat
  endsAllowed : EndsAllowed := .both
  deriving DecidableEq, Repr

/-- A script step (1.11). Times in seconds. -/
inductive ScriptStep where
  | setRoute (route : Nat)
  | turnTable (road : Nat) (deckEnd : DeckEndAsked)
  | waitArrival (track timeout : Nat)
  | waitClear (track timeout : Nat)
  | display (slot time : Nat)
  | pause (time : Nat)
  | cancelRoute (route : Nat)
  deriving DecidableEq, Repr

/-- SCRIPT (1.11). -/
structure ScriptRec where
  button : Nat
  trainCode : Option (List Byte) := none
  coolDown : Nat := 60
  maxRuntime : Nat := 180
  steps : List ScriptStep
  deriving DecidableEq, Repr

/-- BERTH (1.12). -/
structure BerthRec where
  track : Nat := 0
  deriving DecidableEq, Repr

/-- The eleven layout tables (1.1). A record of the GENERAL, NODE, DISTRICT and BERTH tables is always present:
one not listed holds its defaults. A record of the other tables is present exactly when it is listed (R1). -/
structure Tables where
  general : GeneralRec := {}
  nodes : Tab NodeRec := []
  tracks : Tab TrackRec := []
  points : Tab PointRec := []
  signals : Tab SignalRec := []
  routes : Tab RouteRec := []
  districts : Tab DistrictRec := []
  turntable : Option TurntableRec := none
  roads : Tab RoadRec := []
  scripts : Tab ScriptRec := []
  berths : Tab BerthRec := []
  deriving DecidableEq, Repr

/-! ## What TABLE_WRITE carries (R2) -/

/-- One field of a written record: left out, given as bytes that name no value of the field's type, or given. -/
inductive Fld (α : Type) where
  | omitted
  | bad
  | given (v : α)
  deriving DecidableEq, Repr

structure RawGeneral where
  occupyCount : Fld Nat := .omitted
  clearCount : Fld Nat := .omitted
  replyWindow : Fld Nat := .omitted
  driveBudget : Fld Nat := .omitted
  rechargeMs : Fld Nat := .omitted
  heldDefault : Fld Nat := .omitted
  visitorWaitLimit : Fld Nat := .omitted
  dwell : Fld Nat := .omitted
  visitorAtStart : Fld Bool := .omitted
  deriving DecidableEq, Repr

structure RawTrack where
  district : Fld Nat := .omitted
  detector : Fld (Nat × Nat) := .omitted
  kind : Fld TrackKind := .omitted
  endA : Fld Link := .omitted
  endB : Fld Link := .omitted
  deriving DecidableEq, Repr

structure RawPoint where
  district : Fld Nat := .omitted
  drive : Fld (Nat × Nat) := .omitted
  driveKind : Fld DriveKind := .omitted
  pulseCode : Fld Nat := .omitted
  throwLimit : Fld Nat := .omitted
  track : Fld Nat := .omitted
  deriving DecidableEq, Repr

structure RawSignal where
  district : Fld Nat := .omitted
  head : Fld (Nat × Nat) := .omitted
  kind : Fld SignalKind := .omitted
  callOnHead : Fld Bool := .omitted
  deriving DecidableEq, Repr

structure RawRoute where
  cls : Fld RouteClass := .omitted
  entry : Fld Nat := .omitted
  exit : Fld Nat := .omitted
  path : Fld (List Nat) := .omitted
  reqs : Fld (List Requirement) := .omitted
  overlap : Fld (List Nat) := .omitted
  deck : Fld (Nat × DeckEnd) := .omitted
  approach : Fld (List Nat) := .omitted
  approachTime : Fld Nat := .omitted
  overlapTime : Fld Nat := .omitted
  deriving DecidableEq, Repr

structure RawDistrict where
  owner : Fld Nat := .omitted
  shared : Fld Bool := .omitted
  visitorClass : Fld VisitorClass := .omitted
  deriving DecidableEq, Repr

structure RawTurntable where
  fullSteps : Fld Nat := .omitted
  microShift : Fld Nat := .omitted
  indexOffset : Fld Nat := .omitted
  slipTolerance : Fld Nat := .omitted
  backlash : Fld Nat := .omitted
  rampSteps : Fld Nat := .omitted
  startRate : Fld Nat := .omitted
  topRate : Fld Nat := .omitted
  preferredDir : Fld Turn := .omitted
  windingLimit : Fld Nat := .omitted
  settleMs : Fld Nat := .omitted
  boltPresent : Fld Bool := .omitted
  boltLimit : Fld Nat := .omitted
  homeAttempts : Fld Nat := .omitted
  deriving DecidableEq, Repr

structure RawRoad where
  position : Fld Nat := .omitted
  track : Fld Nat := .omitted
  endsAllowed : Fld EndsAllowed := .omitted
  deriving DecidableEq, Repr

structure RawScript where
  button : Fld Nat := .omitted
  trainCode : Fld (List Byte) := .omitted
  coolDown : Fld Nat := .omitted
  maxRuntime : Fld Nat := .omitted
  steps : Fld (List ScriptStep) := .omitted
  deriving DecidableEq, Repr

/-- A record as a TABLE_WRITE gives it, by table. -/
inductive RawRecord where
  | general (r : RawGeneral)
  | node (kind : Fld NodeKind)
  | track (r : RawTrack)
  | point (r : RawPoint)
  | signal (r : RawSignal)
  | route (r : RawRoute)
  | district (r : RawDistrict)
  | turntable (r : RawTurntable)
  | road (r : RawRoad)
  | script (r : RawScript)
  | berth (track : Fld Nat)
  deriving DecidableEq, Repr

/-- The record part of a TABLE_WRITE (R2, 11.8): the CLEAR form, a record, or bytes that fit no form. -/
inductive WriteForm where
  | clear
  | record (r : RawRecord)
  | misfit
  deriving DecidableEq, Repr, Inhabited

/-! ## What the field loop carries (2.4) -/

/-- One channel of a POINT node's INPUT answer. -/
structure ContactReading where
  normalMade : Bool
  reverseMade : Bool
  ack : Byte
  deriving DecidableEq, Repr

/-- The inputs of an INPUT answer, for the kind the node reports. -/
inductive InputData where
  /-- A node that reports kind NONE. -/
  | absent
  /-- 16 detector readings, true for OCCUPIED. -/
  | detect (readings : List Bool)
  | point (channels : List ContactReading)
  /-- lamp_proven for each of 8 heads. -/
  | signal (proven : List Bool)
  /-- 16 buttons, true for PRESSED. -/
  | panel (pressed : List Bool)
  | board
  deriving DecidableEq, Repr

/-- The kind and fields of a frame that reaches the controller on the field loop. -/
inductive FieldBody where
  | identity (kind : NodeKind) (supplyLow driveFault : Bool)
  | input (data : InputData) (supplyLow driveFault : Bool)
  /-- A frame of any other kind. -/
  | other
  deriving DecidableEq, Repr

/-- A complete frame received on the field loop (R22). -/
structure FieldFrame where
  checkGood : Bool
  address : Nat
  body : FieldBody
  deriving DecidableEq, Repr

/-! ## What the serial memory gives (R178) -/

/-- What the image read of STARTING or RELOAD finds. `damaged` lists the records, by table number and index, that hold
a field whose stored code names no value (R10: a damaged field in a readable image). -/
inductive ImageFound where
  | noMemory
  | badHeader
  | badCheck
  | image (tables : Tables) (damaged : List (Nat × Nat))
  /-- The memory as the controller's own last STORE left it. -/
  | lastStored
  deriving DecidableEq, Repr

/-- The selector of TRAIN_STATUS (R114): a record position or a six-byte code. -/
inductive TrainSelector where
  | position (n : Byte)
  | code (c : List Byte)
  deriving DecidableEq, Repr

/-- The commands: one constructor per row of spec/opcode_table.json. Operands of host requests are the raw bytes
of the request body (11.8); a value outside the codes is judged by the owner. -/
inductive Instr where
  /-- COLD_START: the levels of ESTOP_N, the BAUD straps and BOLT_IN as they are read at that moment. -/
  | coldStart (estopAsserted : Bool) (baud : BitVec 2) (boltIn : Bool)
  | imageLoadDone (found : ImageFound)
  | commitCheckDone
  | storeDone (acknowledged : Bool)
  | estopAsserted
  | estopReleased
  | stoppingEnd
  | hostFrameDiscarded
  | frameGapTimeout
  | requestLost
  | badKindOrLength (kind : Byte) (bodyLength : Nat)
  | replyTransmit
  | eventTransmit
  | frameTransmitDone
  | identify
  | getMode
  | configure
  | tableWrite (table index : Byte) (form : WriteForm)
  | tableRead (table index : Byte)
  | commit
  | store
  | reload
  | start
  | stop
  | halt
  | restart
  | eventMask (classes : BitVec 16)
  | eventHold
  | eventResume
  | routeSet (route origin options : Byte) (holdLimit : BitVec 16)
  | routeCancel (route origin : Byte)
  | routeForceRelease (route origin : Byte)
  | routeStatus (route : Byte)
  | sectionStatus (track : Byte)
  | pointThrow (point lie origin : Byte)
  | pointStatus (point : Byte)
  | signalReminder (signal setting origin : Byte)
  | signalStatus (signal : Byte)
  | districtAssign (district owner shared visitorClass origin : Byte)
  | districtTake (district origin : Byte)
  | districtGiveBack (district origin : Byte)
  | districtStatus (district : Byte)
  | trainInterpose (code : List Byte) (track direction cls shown origin : Byte)
  | trainCancel (code : List Byte) (origin : Byte)
  | trainStatus (selector : TrainSelector)
  | tableHome (origin : Byte)
  | tableMove (road deckEnd origin : Byte)
  | tableStop (origin : Byte)
  | tableHalt (origin : Byte)
  | tableStatus
  | visitorEnable (setting origin : Byte)
  | visitorDefault (setting origin : Byte)
  | visitorStatus
  | messagePut (slot origin : Byte) (text : List Byte)
  | rotationSet (origin : Byte) (slots : List Byte)
  | nodeStatus (address : Byte)
  | fieldFrameSent
  | fieldReplyReceived (frame : FieldFrame)
  | replyWindowExpired
  | fieldFrameDiscarded
  | throwLimitExpired (point : Nat)
  | slotRelease (slot : Nat)
  | throwOrderTaken
  | restoreUnwind (context : Nat)
  | heldRouteRescan
  | heldExpiry (route : Nat)
  | approachTimerExpired (route : Nat)
  | overlapTimerExpired (route : Nat)
  | homingStep
  | moveStep
  | indexEdge
  | boltInChange (engaged : Bool)
  | boltTimerExpired
  | settleExpired
  | scriptStart
  | visitorWaitExpired (button : Nat)
  | runtimeExpired
  | stepTimerExpired
  | coolDownExpired (script : Nat)
  | dwellExpired
  | overrideExpired
  | hostByteReceived (byte : Byte)
  | resetNAsserted
  deriving DecidableEq, Repr

end Sys2Proof
end

