-- ==== Sys2Proof/Config.lean ====
section
/-! DEFINITION. What the spec leaves open and every run has some value of: free values, opaque constants about
which nothing can be proved. Each is named in the assumption log. -/

namespace Sys2Proof.Config

/-- Log 5. The image encodes the tables in the controller's own way (11.7), so the number of table bytes is open;
its bounds 1 to 32761 are kept where it is read. -/
opaque freeImageBytes : Tables → Nat

/-- Log 5. The same encoding makes each byte of the tables field open. -/
opaque freeImageByte : Tables → (offset : Nat) → Byte

/-- Log 6. The byte encoding of a record in a TABLE_WRITE body is not stated beyond the order of its fields (11.8):
what record, if any, the bytes of a frame stand for is open. -/
opaque freeRecordOf : (table : Nat) → (bytes : List Byte) → WriteForm

/-- Log 7. An image left by a STORE that failed or was cut short is found BAD_HEADER or BAD_CHECK (R184), and which
is open: the value is BAD_HEADER when true. The argument counts the uses. -/
opaque freeDamagedIsHeader : (use : Nat) → Bool

end Sys2Proof.Config
end

