-- ==== Sys2Proof/Machine/State.lean ====
section
/-! DEFINITION. The state of the controller, block by block, as plain data: every piece of state the spec gives it, the
queue of waiting commands, and the values after a cold start. Times are in microseconds of the controller's time base;
`none` for a time is a stopped timer. A working record that a table does not list has its cold-start value. -/

namespace Sys2Proof.Machine

/-! ## Names -/

/-- Operating modes (11.4). -/
inductive Mode where
  | starting | unconfigured | configuring | checking | ready | running | stopping | halted
  deriving DecidableEq, Repr

/-- Causes of MODE_CHANGED (R178). -/
inductive ModeCause where
  | powerOn | request | check | estop | stoppingEnd | restart
  deriving DecidableEq, Repr

/-- Who asks (Conventions: Origins). `other` is a code from the host that is neither AUTO nor a desk (R174). -/
inductive Origin where
  | auto
  | desk (d : Nat)
  | visitor
  | restore
  | other (code : Nat)
  deriving DecidableEq, Repr

/-- Result codes (11.2). -/
inductive ResultCode where
  | ok | accepted | queued | badKind | badLength | badValue | wrongMode | busy | noAuthority | conflict | duplicate
  | full | notFound | notSet | inUse | held | localRelease | pointsNotDetected | tableOwned | notHomed | tableFault
  | deckUnknown | overhang | windingLimit | notOccupied | sectionDescribed | estop
  deriving DecidableEq, Repr

/-- Conflict reasons (R70), in the order of their codes (11.2). -/
inductive ConflictReason where
  | localRelease | sectionHeld | pointOtherLie | pointMoving | holdersFull | entryBusy | tableNotReady | tableBusy
  | tableOwned | contextsFull
  deriving DecidableEq, Repr

/-- Event kinds in the order of their codes, from 1 (11.8). -/
inductive EventKind where
  | modeChanged | checkDone | storeDone | nodeState | nodeStatus | sectionState | pointDetected | pointFailed
  | pointUnwanted | routeState | routeHeldExpired | signalAspect | signalPassedAtDanger | trainStep | trainLost
  | trainAmbiguous | undescribed | tableState | tableFault | visitor | district | eventsDropped
  deriving DecidableEq, Repr

/-- Event classes in the order of their bits, from 0 (11.3). -/
inductive EventClass where
  | mode | alarms | nodes | sections | points | routes | signals | trains | table | visitor
  deriving DecidableEq, Repr

/-- An event record (11.3, 11.8). -/
structure EventRec where
  kind : EventKind
  cls : EventClass
  subject : BitVec 16
  v1 : BitVec 16
  v2 : BitVec 16
  v3 : BitVec 16
  deriving DecidableEq, Repr

/-! ## FLC (chapter 2) -/

inductive NodeState where
  | absent | census | online | missing | lost | mismatch
  deriving DecidableEq, Repr

structure NodeWork where
  state : NodeState := .absent
  misses : Nat := 0
  reportedKind : NodeKind := .absent
  supplyLow : Bool := false
  driveFault : Bool := false
  deriving DecidableEq, Repr

inductive Occupancy where
  | clear | occupied | unknown
  deriving DecidableEq, Repr

structure TrackRead where
  occupancy : Occupancy := .unknown
  count : Nat := 0
  firstPending : Bool := true
  deriving DecidableEq, Repr

/-- The detected lie of a point, and the class of a contact reading (R34). -/
inductive Detected where
  | normal | reverse | moving | contactFault | unknown
  deriving DecidableEq, Repr

/-- `lastReading` is `none` for the manual's NONE. -/
structure PointRead where
  detected : Detected := .unknown
  lastReading : Option Detected := none
  deriving DecidableEq, Repr

inductive Proving where
  | proven | notProven | awaited | unknown
  deriving DecidableEq, Repr

/-- `lastReading` is `none` for NONE. `confirmed`: two consecutive readings have agreed since `lastReading` was NONE
(log 16), so that a change to PRESSED is a press (R36). -/
structure ButtonRead where
  pressed : Bool := false
  lastReading : Option Bool := none
  confirmed : Bool := false
  deriving DecidableEq, Repr

/-- The command FLC carries for a point's channel (3.1, 2.4). -/
inductive DriveCommand where
  | none
  | pulse (lie : Lie) (ms : Nat)
  | run (lie : Lie)
  | stop
  deriving DecidableEq, Repr

inductive Lamp where
  | off | steady | slow | fast
  deriving DecidableEq, Repr

/-- The aspect of a head in an OUTPUT frame; `none` is DARK (R24). -/
abbrev HeadAspect := Option Aspect

/-- The frame FLC sent in the exchange in progress (2.4, R24). -/
inductive SentFrame where
  | identify
  | detectOutput
  | pointOutput (channels : List (DriveCommand × Nat))
  | signalOutput (heads : List HeadAspect)
  | panelOutput (lamps : List Lamp)
  | boardOutput (line : List Byte) (windows : List (List Byte))
  deriving DecidableEq, Repr

/-- An open exchange (R22): the node addressed, the frame sent and the end of the reply window. -/
structure Exchange where
  address : Nat
  sent : SentFrame
  windowAt : Nat
  deriving DecidableEq, Repr

structure Flc where
  nodes : Tab NodeWork := []
  tracks : Tab TrackRead := []
  points : Tab PointRead := []
  heads : Tab Proving := []
  buttons : Tab ButtonRead := []
  exchange : Option Exchange := none
  /-- Address of the last exchange of the poll cycle; 0 before the first (R21). -/
  lastPolled : Nat := 0
  deriving DecidableEq, Repr

/-! ## PTS (chapter 3) -/

inductive ThrowCause where
  | setting | restore | individual | redrive
  deriving DecidableEq, Repr

inductive Requester where
  | context (n : Nat)
  | origin (o : Origin)
  deriving DecidableEq, Repr

inductive Phase where
  | waiting | sent | driving | proving
  deriving DecidableEq, Repr

/-- A throw order (3.2). Phase WAITING is order_state QUEUED, the other phases are IN_FLIGHT. -/
structure Order where
  lie : Lie
  cause : ThrowCause
  requesters : List Requester
  phase : Phase := .waiting
  placedAt : Nat
  takenAt : Option Nat := none
  limitAt : Option Nat := none
  deriving DecidableEq, Repr

/-- The point working record, less its detected lie (FLC's) and its holders (RIE's) (3.1). -/
structure PointWork where
  /-- `none` is UNKNOWN. -/
  commanded : Option Lie := none
  order : Option Order := none
  failed : Bool := false
  redriveUsed : Bool := false
  driveCommand : DriveCommand := .none
  commandNumber : Nat := 0
  lastNumber : Nat := 0
  deriving DecidableEq, Repr

/-- A drive slot (3.3). `releaseAt` is set once the point's solenoid has been driven. -/
inductive Slot where
  | free
  | busy (point : Nat) (releaseAt : Option Nat)
  deriving DecidableEq, Repr

structure Pts where
  points : Tab PointWork := []
  queue : List Nat := []
  /-- Slots 1 to 4; the first drive_budget of them are in use. -/
  slots : Tab Slot := []
  deriving DecidableEq, Repr

/-- How an order ended, as a context is told it (3.5). -/
inductive ThrowFailure where
  | noAck | timeout | nodeLost
  deriving DecidableEq, Repr

inductive ThrowReport where
  | complete
  | failed (c : ThrowFailure)
  | abandoned
  deriving DecidableEq, Repr

/-! ## TTC states (chapter 8), needed by RIE's reports -/

inductive TtcState where
  | unhomed | homing | unbolting | moving | settling | bolting | aligned | stopped | fault
  deriving DecidableEq, Repr

/-- How a move ended, as a context is told it (R138). -/
inductive MoveEnd where
  | aligned
  | ended (st : TtcState)
  deriving DecidableEq, Repr

/-! ## RIE (chapter 5) -/

inductive RouteState where
  | free | held | setting | locked | inUse | approachLocked | restoring
  deriving DecidableEq, Repr

/-- Route causes (5.1, 6.8). -/
inductive RouteCause where
  | none | requested | complete | cancelled | noAuthority | expired | noAck | timeout | nodeLost | tableFault
  | tableStopped | stopping | forced | trainEntered | approachExpired | released
  | conflict (r : ConflictReason)
  | tableRefusal (c : ResultCode)
  deriving DecidableEq, Repr

/-- hold_at: absent, running to a time, or stopped on entry to HALTED with the time it had left (R74). -/
inductive HoldTime where
  | absent
  | runs (expiry : Nat)
  | frozen (left : Nat)
  deriving DecidableEq, Repr

/-- The route working record (5.1). `seen` and `released` list path positions, from 1. -/
structure RouteWork where
  state : RouteState := .free
  origin : Option Origin := none
  fleet : Bool := false
  hold : HoldTime := .absent
  heldReason : Option ConflictReason := none
  context : Nat := 0
  clearedOnce : Bool := false
  passed : Bool := false
  seen : List Nat := []
  released : List Nat := []
  overlapReleased : Bool := false
  approachTimer : Option Nat := none
  overlapTimer : Option Nat := none
  forced : Bool := false
  cause : RouteCause := .none
  deriving DecidableEq, Repr

/-- The lock of one track piece (5.2). Holder 0 is none. -/
structure Lock where
  holder : Nat := 0
  releaseOnClear : Bool := false
  deriving DecidableEq, Repr

inductive JournalTarget where
  | point (p : Nat) (lie : Lie) (previous : Option Lie)
  | table (road : Nat) (deckEnd : DeckEnd) (previous : Option (Nat × DeckEnd))
  deriving DecidableEq, Repr

inductive JournalOutcome where
  | pending | complete | failed | withdrawn | abandoned | aligned | refused | ended
  deriving DecidableEq, Repr

inductive RestoreMark where
  | none | placed | skipped | done
  deriving DecidableEq, Repr

structure JournalEntry where
  target : JournalTarget
  outcome : JournalOutcome := .pending
  restore : RestoreMark := .none
  deriving DecidableEq, Repr

inductive ContextPhase where
  | free | setting | draining | unwinding
  deriving DecidableEq, Repr

/-- A setting context (5.6). -/
structure Context where
  route : Nat := 0
  phase : ContextPhase := .free
  journal : List JournalEntry := []
  failure : Option RouteCause := none
  deriving DecidableEq, Repr

structure Rie where
  routes : Tab RouteWork := []
  locks : Tab Lock := []
  /-- entry_holder of each signal; 0 is none. -/
  entryHolders : Tab Nat := []
  /-- The holders list of each point (R40). -/
  holders : Tab (List (Nat × Lie)) := []
  contexts : Tab Context := []
  heldQueue : List Nat := []
  deriving DecidableEq, Repr

/-! ## SAU (chapter 6) -/

structure SignalWork where
  commanded : Aspect := .danger
  effective : Aspect := .danger
  redOut : Bool := true
  reminder : Bool := false
  deriving DecidableEq, Repr

/-! ## DAT (chapter 4) -/

structure DistrictWork where
  owner : Nat := 0
  shared : Bool := false
  visitorClass : VisitorClass := .closed
  releaseHolder : Nat := 0
  deriving DecidableEq, Repr

/-! ## TD (chapter 7) -/

inductive TrainClass where
  | passenger | freight | light | visitor
  deriving DecidableEq, Repr

/-- A train record (7.1). A record with an empty footprint is LOST, any other ACTIVE; head and direction are read from
the footprint. -/
structure TrainWork where
  code : List Byte
  cls : TrainClass
  footprint : List (Nat × TrackEnd)
  lastTrack : Nat := 0
  shown : Bool
  origin : Origin
  deriving DecidableEq, Repr

structure Td where
  /-- Records by position 1 to 32; a position that is not listed is free. -/
  trains : Tab TrainWork := []
  /-- Text of each berth window. -/
  berths : Tab (List Byte) := []
  deriving DecidableEq, Repr

/-! ## TTC (chapter 8) -/

inductive HomePhase where
  | withdraw | search | backoff
  deriving DecidableEq, Repr

inductive TableFaultCause where
  | bolt | boltLost | indexSlip | replan | homeFailed
  deriving DecidableEq, Repr

/-- The move record (8.5). `legs` are signed lengths in microsteps; `leg` counts from 1. -/
structure Move where
  road : Nat
  deckEnd : DeckEnd
  origin : Origin
  context : Nat
  legs : List Int
  leg : Nat := 1
  stepIndex : Nat := 0
  stopPending : Bool := false
  replanUsed : Bool := false
  lastRate : Option Nat := none
  deriving DecidableEq, Repr

/-- The turntable record (8.1), with its timers and the levels of its pins. -/
structure Ttc where
  state : TtcState := .unhomed
  homed : Bool := false
  p : Nat := 0
  a : Int := 0
  face1 : Nat := 0
  face2 : Nat := 0
  deckOwner : Nat := 0
  move : Option Move := none
  homePhase : Option HomePhase := none
  attempts : Nat := 0
  /-- bolt_command: true for ENGAGE. -/
  boltEngage : Bool := true
  /-- The level of BOLT_IN as last taken: true for IN. Read as bolt_in where a bolt is configured (R128). -/
  boltLevel : Bool := false
  lastFault : Option (TableFaultCause × Int) := none
  /-- Level on DIR (R127). -/
  dir : Turn := .ccw
  /-- Steps issued in the current homing search or back-off (R134). -/
  homeStep : Nat := 0
  /-- When the next step is due (R150, R134). -/
  stepAt : Option Nat := none
  boltAt : Option Nat := none
  settleAt : Option Nat := none
  /-- Pulses given on STEP since the cold start. -/
  pulses : Nat := 0
  deriving DecidableEq, Repr

/-! ## VPC (chapter 10) -/

structure VisitorEntry where
  button : Nat
  script : Nat
  pressedAt : Nat
  expiresAt : Nat
  deriving DecidableEq, Repr

inductive Awaiting where
  | none | route | table | arrival | clear | time
  deriving DecidableEq, Repr

structure Runner where
  script : Nat := 0
  button : Nat := 0
  step : Nat := 1
  awaiting : Awaiting := .none
  stepRoute : Nat := 0
  stepTimer : Option Nat := none
  runtimeAt : Option Nat := none
  owned : List Nat := []
  deriving DecidableEq, Repr

inductive AbortCause where
  | stepFailed | runtime | district | disabled | stopping | halted
  deriving DecidableEq, Repr

/-- What a failed step recorded (R162 to R164, R167). -/
inductive StepFailure where
  | none
  | refusal (c : ResultCode)
  | routeCause (c : RouteCause)
  | tableState (s : TtcState)
  | timeout
  deriving DecidableEq, Repr

structure LastAbort where
  script : Nat
  cause : AbortCause
  step : Nat
  failure : StepFailure
  deriving DecidableEq, Repr

/-- The train of the last completed WAIT_ARRIVAL step (10.4). -/
structure Arrival where
  position : Nat
  code : List Byte
  cls : TrainClass
  deriving DecidableEq, Repr

structure Vpc where
  enable : Bool := false
  /-- Lamp pattern of each button; OFF where not listed. -/
  lamps : Tab Lamp := []
  queue : List VisitorEntry := []
  runner : Runner := {}
  /-- Expiry of each running cool-down, by script. -/
  coolDowns : Tab Nat := []
  lastAbort : Option LastAbort := none
  arrival : Option Arrival := none
  slots : Tab (List Byte) := []
  rotation : List Nat := []
  cursor : Nat := 0
  dwellAt : Option Nat := none
  /-- The slot of a SHOW in force and its expiry. -/
  shown : Option (Nat × Nat) := none
  deriving DecidableEq, Repr

/-! ## Replies -/

/-- A stored record as TABLE_READ returns it (R3). -/
inductive StoredRecord where
  | general (r : GeneralRec)
  | node (r : NodeRec)
  | track (r : TrackRec)
  | point (r : PointRec)
  | signal (r : SignalRec)
  | route (r : RouteRec)
  | district (r : DistrictRec)
  | turntable (r : TurntableRec)
  | road (r : RoadRec)
  | script (r : ScriptRec)
  | berth (r : BerthRec)
  deriving DecidableEq, Repr

/-- What a reply carries after its result. -/
inductive ReplyBody where
  | plain
  /-- The reason byte of CONFLICT and QUEUED (11.2). -/
  | reason (r : ConflictReason)
  | eventClasses (mask : BitVec 16)
  | recordPosition (n : Nat)
  /-- R183: part code, revision and the figures of the capacity table, row by row. -/
  | identification (part revision : Nat) (capacities : List (List Nat))
  /-- R183. -/
  | modeInfo (mode : Mode) (estop storing : Bool) (lastCheck : Nat × Nat × Nat) (hold : Bool) (queued dropped : Nat)
  | stored (r : StoredRecord)
  /-- R87; times left in tenths of a second. -/
  | route (id : Nat) (work : RouteWork) (holdLeft approachLeft overlapLeft queuePosition : Nat) (context : Context)
  /-- R87. -/
  | track (occupancy : Occupancy) (lock : Lock) (holderState : Option RouteState) (pathPosition : Nat)
  /-- R52. -/
  | point (commanded : Option Lie) (detected : Detected) (holders : List (Nat × Lie)) (failed redriveUsed : Bool)
      (order : Option Order) (queuePosition : Nat)
  /-- R98. -/
  | signal (work : SignalWork) (proving : Proving) (node : NodeState) (entryHolder : Nat) (holderState : Option RouteState)
  /-- R65. -/
  | district (work : DistrictWork) (stored : DistrictRec) (ordered undetected : Nat)
  /-- R114, position 0: each record's position, code and whether it is LOST. -/
  | trainList (records : List (Nat × List Byte × Bool))
  /-- R114: the record, and the occupancy of each footprint entry. -/
  | train (position : Nat) (record : TrainWork) (occupancies : List Occupancy)
  /-- R143. -/
  | table (state : TtcState) (homed : Bool) (p : Nat) (a : Int) (face1 face2 deckOwner : Nat)
      (ownerState : Option RouteState) (homing : Option (HomePhase × Nat)) (move : Option Move) (boltEngage boltIn : Bool)
      (lastFault : Option (TableFaultCause × Int)) (deck : Occupancy) (deckAnswer : Option (Nat × Nat))
  /-- R171; times left in microseconds. -/
  | visitor (enable atStart : Bool) (lamps : List Lamp) (queue : List (Nat × Nat × Nat)) (runner : Runner)
      (stepLeft runtimeLeft : Nat) (arrival : Option Arrival) (lastAbort : Option LastAbort) (coolDownsLeft : List Nat)
      (rotation : List Nat) (cursor : Nat) (shown : Option (Nat × Nat)) (line : List Byte)
  /-- R30: the configured kind, the node record, and its channels by channel number. -/
  | node (kind : NodeKind) (work : NodeWork) (tracks : List (Nat × Occupancy)) (points : List (Nat × Detected))
      (heads : List (Nat × Proving))
  deriving DecidableEq, Repr

/-- A reply: the request kind it answers, the result and what follows it. -/
structure Reply where
  kind : Byte
  result : ResultCode
  body : ReplyBody := .plain
  deriving DecidableEq, Repr

/-! ## HL and LTS (chapter 11) -/

/-- The receiver (R173). In IN_FRAME it holds the bytes collected after the start byte. -/
inductive Receiver where
  | hunting
  | inFrame (bytes : List Byte)
  deriving DecidableEq, Repr

/-- What the transmitter on TXD is sending (R175). A reply carries the REQUEST_LOST flag as it stood when sent. -/
inductive Transmitter where
  | idle
  | reply (r : Reply) (lostFlag : Bool)
  | event (e : EventRec)
  deriving DecidableEq, Repr

/-- The class mask at cold start: all but SECTIONS and SIGNALS (11.1). -/
def defaultMask : BitVec 16 := 0x03B7#16

structure Hl where
  receiver : Receiver := .hunting
  /-- Kind of the request in service. -/
  inService : Option Byte := none
  requestLost : Bool := false
  /-- The reply that is due and not yet being sent. -/
  reply : Option Reply := none
  tx : Transmitter := .idle
  queue : List EventRec := []
  dropped : Nat := 0
  mask : BitVec 16 := defaultMask
  hold : Bool := false
  /-- The BAUD straps as last read. -/
  baud : BitVec 2 := 0#2
  deriving DecidableEq, Repr

/-- Which request put the controller into CHECKING (11.4). -/
inductive CheckSource where
  | commit | reload
  deriving DecidableEq, Repr

structure Lts where
  tables : Tables := {}
  /-- Touched-district sets (1.14), districts rising. -/
  routeSets : Tab (List Nat) := []
  scriptSets : Tab (List Nat) := []
  mode : Mode := .starting
  checking : Option CheckSource := none
  /-- The tables a STORE in progress is writing. -/
  storing : Option Tables := none
  /-- Values of the last CHECK_DONE. -/
  lastCheck : Nat × Nat × Nat := (0, 0, 0)
  /-- The level of the E-stop input as taken (R181). -/
  estop : Bool := false
  deriving DecidableEq, Repr

/-- What the controller has left in the serial memory (R184): nothing yet, the bytes of an image with the tables they
encode (11.7, log 5), or an image cut short. -/
inductive SerialImage where
  | unwritten
  | holds (t : Tables) (image : List Byte)
  | damaged
  deriving DecidableEq, Repr

/-- A hand-off between blocks that the event in progress has still to carry out. Empty between events. -/
inductive Work where
  /-- An event record to be raised at this place of the event (R60, R64). -/
  | raise (e : EventRec)
  /-- TTC tells a context how its move ended (R138). -/
  | moveReport (context : Nat) (result : MoveEnd)
  /-- RIE hands VPC a change of route state (R66). -/
  | routeChange (route : Nat) (state : RouteState) (cause : RouteCause)
  /-- TTC hands VPC a change of its state (R131). -/
  | tableChange
  /-- TD hands VPC a change of head (R123). -/
  | headChange (position head : Nat)
  /-- FLC hands VPC a change of occupancy (R164). -/
  | trackChange (track : Nat) (occupancy : Occupancy)
  /-- FLC hands VPC a press (R36). -/
  | press (button : Nat)
  /-- VPC makes the start examination (R160). -/
  | startExam
  /-- VPC begins the runner's step (R161). -/
  | beginStep
  /-- VPC judges the running script after an assignment (R60). -/
  | judgeScript
  deriving DecidableEq, Repr

/-- Why a step stops with a fault. The spec gives every command an effect or none in each state, so there is none:
no meaning raises a fault. -/
inductive Fault where
  deriving DecidableEq, Repr

/-- Why a step refuses. -/
inductive Refusal where
  /-- Raised by `exec` alone, for a command that has no meaning yet; safe. No arm raises it now. -/
  | notModelled (mnemonic : String)
  deriving DecidableEq, Repr

/-- The whole controller. -/
structure State where
  /-- The time base, in microseconds since the cold start. -/
  now : Nat := 0
  /-- RESET_N is low or the supply has failed (R178). -/
  inReset : Bool := false
  hl : Hl := {}
  lts : Lts := {}
  flc : Flc := {}
  pts : Pts := {}
  rie : Rie := {}
  sau : Tab SignalWork := []
  dat : Tab DistrictWork := []
  td : Td := {}
  ttc : Ttc := {}
  vpc : Vpc := {}
  serial : SerialImage := .unwritten
  /-- How often an open value of the spec has been used (log 7). -/
  freeUse : Nat := 0
  /-- Hand-offs the event in progress has still to carry out. -/
  work : List Work := []
  /-- A trigger of R73 has happened in the event in progress. -/
  rescanDue : Bool := false
  /-- The commands that wait, first in first out. -/
  pending : List Instr := []
  deriving DecidableEq, Repr

/-- MODE_CHANGED on entry to STARTING carries STARTING as its previous mode and cause POWER_ON (11.8). -/
def startingRecord : EventRec :=
  { kind := .modeChanged, cls := .mode, subject := 0, v1 := 0, v2 := 0, v3 := 0 }

/-- The controller right after a cold start: every block at its cold-start values, mode STARTING, and the MODE_CHANGED
record of the entry to STARTING queued (R178). Pin levels: E-stop released, BAUD straps 00, bolt OUT (log 3). -/
def State.reset : State := { hl := { queue := [startingRecord] } }

end Sys2Proof.Machine
end

