-- ==== Sys2Proof/Machine/Codes.lean ====
section
/-! DEFINITION. The codes of spec 11.2, 11.3 and 11.8: how names are sent in results, event records and replies. -/

namespace Sys2Proof.Machine

/-- Result codes (11.2). -/
def ResultCode.code : ResultCode → Nat
  | .ok => 0 | .accepted => 1 | .queued => 2 | .badKind => 3 | .badLength => 4 | .badValue => 5 | .wrongMode => 6
  | .busy => 7 | .noAuthority => 8 | .conflict => 9 | .duplicate => 10 | .full => 11 | .notFound => 12 | .notSet => 13
  | .inUse => 14 | .held => 15 | .localRelease => 16 | .pointsNotDetected => 17 | .tableOwned => 18 | .notHomed => 19
  | .tableFault => 20 | .deckUnknown => 21 | .overhang => 22 | .windingLimit => 23 | .notOccupied => 24
  | .sectionDescribed => 25 | .estop => 26

/-- Conflict reasons (11.2). -/
def ConflictReason.code : ConflictReason → Nat
  | .localRelease => 1 | .sectionHeld => 2 | .pointOtherLie => 3 | .pointMoving => 4 | .holdersFull => 5
  | .entryBusy => 6 | .tableNotReady => 7 | .tableBusy => 8 | .tableOwned => 9 | .contextsFull => 10

/-- Event kinds (11.8). -/
def EventKind.code : EventKind → Nat
  | .modeChanged => 1 | .checkDone => 2 | .storeDone => 3 | .nodeState => 4 | .nodeStatus => 5 | .sectionState => 6
  | .pointDetected => 7 | .pointFailed => 8 | .pointUnwanted => 9 | .routeState => 10 | .routeHeldExpired => 11
  | .signalAspect => 12 | .signalPassedAtDanger => 13 | .trainStep => 14 | .trainLost => 15 | .trainAmbiguous => 16
  | .undescribed => 17 | .tableState => 18 | .tableFault => 19 | .visitor => 20 | .district => 21 | .eventsDropped => 22

/-- Event classes: bit numbers of the mask (11.3). -/
def EventClass.bit : EventClass → Nat
  | .mode => 0 | .alarms => 1 | .nodes => 2 | .sections => 3 | .points => 4 | .routes => 5 | .signals => 6
  | .trains => 7 | .table => 8 | .visitor => 9

def Mode.code : Mode → Nat
  | .starting => 0 | .unconfigured => 1 | .configuring => 2 | .checking => 3 | .ready => 4 | .running => 5
  | .stopping => 6 | .halted => 7

def ModeCause.code : ModeCause → Nat
  | .powerOn => 0 | .request => 1 | .check => 2 | .estop => 3 | .stoppingEnd => 4 | .restart => 5

def NodeState.code : NodeState → Nat
  | .absent => 0 | .census => 1 | .online => 2 | .missing => 3 | .lost => 4 | .mismatch => 5

def nodeKindCode : NodeKind → Nat
  | .absent => 0 | .detect => 1 | .point => 2 | .signal => 3 | .panel => 4 | .board => 5

def yesNoCode (b : Bool) : Nat := if b then 1 else 0

def Occupancy.code : Occupancy → Nat
  | .clear => 0 | .occupied => 1 | .unknown => 2

def Detected.code : Detected → Nat
  | .unknown => 0 | .normal => 1 | .reverse => 2 | .moving => 3 | .contactFault => 4

def lieCode : Lie → Nat
  | .normal => 1 | .reverse => 2

def ThrowFailure.code : ThrowFailure → Nat
  | .noAck => 1 | .timeout => 2 | .nodeLost => 3

def aspectCode : Aspect → Nat
  | .danger => 0 | .callOn => 1 | .shunt => 2 | .caution => 3 | .prelimCaution => 4 | .clear => 5

def TtcState.code : TtcState → Nat
  | .unhomed => 0 | .homing => 1 | .unbolting => 2 | .moving => 3 | .settling => 4 | .bolting => 5 | .aligned => 6
  | .stopped => 7 | .fault => 8

def TableFaultCause.code : TableFaultCause → Nat
  | .bolt => 1 | .boltLost => 2 | .indexSlip => 3 | .replan => 4 | .homeFailed => 5

def AbortCause.code : AbortCause → Nat
  | .stepFailed => 1 | .runtime => 2 | .district => 3 | .disabled => 4 | .stopping => 5 | .halted => 6

def visitorClassCode : VisitorClass → Nat
  | .closed => 0 | .opened => 1 | .openUnattended => 2

/-- Origins: as the host sends them, and 9 for VISITOR (the route record of 11.8). RESTORE is never sent: code 0. -/
def Origin.code : Origin → Nat
  | .auto => 0 | .desk d => d | .visitor => 9 | .restore => 0 | .other c => c

def RouteState.code : RouteState → Nat
  | .free => 0 | .held => 1 | .setting => 2 | .locked => 3 | .inUse => 4 | .approachLocked => 5 | .restoring => 6

/-- Route causes (the route record of 11.8). -/
def RouteCause.code : RouteCause → Nat
  | .none => 0 | .requested => 1 | .complete => 2 | .cancelled => 3 | .noAuthority => 4 | .expired => 5 | .noAck => 6
  | .timeout => 7 | .nodeLost => 8 | .tableFault => 10 | .tableStopped => 11 | .stopping => 12 | .forced => 13
  | .trainEntered => 14 | .approachExpired => 15 | .released => 16
  | .conflict r => 32 + r.code
  | .tableRefusal c => 64 + c.code

def ContextPhase.code : ContextPhase → Nat
  | .free => 0 | .setting => 1 | .draining => 2 | .unwinding => 3

/-- An event record with its values as numbers. -/
def eventOf (kind : EventKind) (cls : EventClass) (subject : Nat) (v1 v2 v3 : Nat := 0) : EventRec :=
  { kind, cls, subject := BitVec.ofNat 16 subject, v1 := BitVec.ofNat 16 v1, v2 := BitVec.ofNat 16 v2,
    v3 := BitVec.ofNat 16 v3 }

end Sys2Proof.Machine
end

