-- ==== Sys2Proof/Machine/Tab.lean ====
section
/-! DEFINITION. Reading and writing a sparse table by number. -/

namespace Sys2Proof

/-- The record at `k`, if one is listed. -/
def Tab.get? {α : Type} : Tab α → Nat → Option α
  | [], _ => none
  | (j, v) :: t, k => if k = j then some v else Tab.get? t k

/-- The record at `k`, or `d` where none is listed. -/
def Tab.getD {α : Type} (t : Tab α) (k : Nat) (d : α) : α :=
  (Tab.get? t k).getD d

/-- Lists `v` at `k`, in place of what was there; a rising table stays rising. -/
def Tab.put {α : Type} : Tab α → Nat → α → Tab α
  | [], k, v => [(k, v)]
  | (j, w) :: t, k, v =>
    if k < j then (k, v) :: (j, w) :: t
    else if k = j then (k, v) :: t
    else (j, w) :: Tab.put t k v

/-- Takes the record at `k` out. -/
def Tab.erase {α : Type} (t : Tab α) (k : Nat) : Tab α :=
  t.filter fun e => e.1 != k

/-- The numbers listed, in order. -/
def Tab.keys {α : Type} (t : Tab α) : List Nat :=
  t.map (·.1)

/-- Whether a record is listed at `k`. -/
def Tab.has {α : Type} (t : Tab α) (k : Nat) : Bool :=
  (Tab.get? t k).isSome

/-- The lowest number whose record satisfies `f`. -/
def Tab.find {α : Type} (t : Tab α) (f : Nat → α → Bool) : Option Nat :=
  (t.find? fun e => f e.1 e.2).map (·.1)

/-- Adds a number to a rising list that does not hold it yet. -/
def addNumber (k : Nat) : List Nat → List Nat
  | [] => [k]
  | j :: l => if k < j then k :: j :: l else if k = j then j :: l else j :: addNumber k l

/-- The numbers of several lists, each once, rising. -/
def unionNumbers (l : List Nat) : List Nat :=
  l.foldl (fun acc k => addNumber k acc) []

/-- The elements of a list from position 1 on, each with its position. -/
def numbered {α : Type} (l : List α) : List (Nat × α) :=
  (List.range l.length).zip l |>.map fun e => (e.1 + 1, e.2)

/-- The 1-based position of a number in a list; 0 where it is not there. -/
def positionOf (k : Nat) : List Nat → Nat
  | [] => 0
  | j :: l => if k = j then 1 else
      match positionOf k l with
      | 0 => 0
      | n + 1 => n + 2

end Sys2Proof
end

