-- ==== Sys2Proof/Machine/Ops.lean ====
section
/-! DEFINITION. The named operations over the state: reading a record, writing a record, raising an event (R177),
changing the mode (R178). Every later file reads and writes the state through these. -/

namespace Sys2Proof.Machine

/-! ## Records of the tables -/

namespace State

def tables (s : State) : Tables := s.lts.tables
def mode (s : State) : Mode := s.lts.mode
def general (s : State) : GeneralRec := s.lts.tables.general
def nodeRec (s : State) (a : Nat) : NodeRec := s.tables.nodes.getD a {}
def trackRec (s : State) (t : Nat) : Option TrackRec := s.tables.tracks.get? t
def pointRec (s : State) (p : Nat) : Option PointRec := s.tables.points.get? p
def signalRec (s : State) (x : Nat) : Option SignalRec := s.tables.signals.get? x
def routeRec (s : State) (q : Nat) : Option RouteRec := s.tables.routes.get? q
def districtRec (s : State) (d : Nat) : DistrictRec := s.tables.districts.getD d {}
def scriptRec (s : State) (k : Nat) : Option ScriptRec := s.tables.scripts.get? k

/-- The mode is one of those in which the loop runs (R20). -/
def loopRuns (s : State) : Bool :=
  match s.mode with
  | .ready | .running | .stopping | .halted => true
  | _ => false

/-- RIE's rules act in RUNNING and STOPPING (R73, R108). -/
def railActive (s : State) : Bool :=
  match s.mode with
  | .running | .stopping => true
  | _ => false

/-! ## Working records -/

def node (s : State) (a : Nat) : NodeWork := s.flc.nodes.getD a {}
def trackRead (s : State) (t : Nat) : TrackRead := s.flc.tracks.getD t {}
def occupancy (s : State) (t : Nat) : Occupancy := (s.trackRead t).occupancy
def pointRead (s : State) (p : Nat) : PointRead := s.flc.points.getD p {}
def detected (s : State) (p : Nat) : Detected := (s.pointRead p).detected
def proving (s : State) (x : Nat) : Proving := s.flc.heads.getD x .unknown
def button (s : State) (b : Nat) : ButtonRead := s.flc.buttons.getD b {}
def point (s : State) (p : Nat) : PointWork := s.pts.points.getD p {}
def slot (s : State) (n : Nat) : Slot := s.pts.slots.getD n .free
def route (s : State) (q : Nat) : RouteWork := s.rie.routes.getD q {}
def lock (s : State) (t : Nat) : Lock := s.rie.locks.getD t {}
def entryHolder (s : State) (x : Nat) : Nat := s.rie.entryHolders.getD x 0
def holders (s : State) (p : Nat) : List (Nat × Lie) := s.rie.holders.getD p []
def context (s : State) (n : Nat) : Context := s.rie.contexts.getD n {}
def signal (s : State) (x : Nat) : SignalWork := s.sau.getD x {}
def district (s : State) (d : Nat) : DistrictWork := s.dat.getD d {}

/-! ## Writing one record -/

def setNode (s : State) (a : Nat) (w : NodeWork) : State :=
  { s with flc := { s.flc with nodes := s.flc.nodes.put a w } }
def setTrackRead (s : State) (t : Nat) (w : TrackRead) : State :=
  { s with flc := { s.flc with tracks := s.flc.tracks.put t w } }
def setPointRead (s : State) (p : Nat) (w : PointRead) : State :=
  { s with flc := { s.flc with points := s.flc.points.put p w } }
def setProving (s : State) (x : Nat) (w : Proving) : State :=
  { s with flc := { s.flc with heads := s.flc.heads.put x w } }
def setButton (s : State) (b : Nat) (w : ButtonRead) : State :=
  { s with flc := { s.flc with buttons := s.flc.buttons.put b w } }
def setExchange (s : State) (e : Option Exchange) : State :=
  { s with flc := { s.flc with exchange := e } }
def setPoint (s : State) (p : Nat) (w : PointWork) : State :=
  { s with pts := { s.pts with points := s.pts.points.put p w } }
def setSlot (s : State) (n : Nat) (w : Slot) : State :=
  { s with pts := { s.pts with slots := s.pts.slots.put n w } }
def setThrowQueue (s : State) (l : List Nat) : State :=
  { s with pts := { s.pts with queue := l } }
def setRoute (s : State) (q : Nat) (w : RouteWork) : State :=
  { s with rie := { s.rie with routes := s.rie.routes.put q w } }
def setLock (s : State) (t : Nat) (w : Lock) : State :=
  { s with rie := { s.rie with locks := s.rie.locks.put t w } }
def setEntryHolder (s : State) (x q : Nat) : State :=
  { s with rie := { s.rie with entryHolders := s.rie.entryHolders.put x q } }
def setHolders (s : State) (p : Nat) (l : List (Nat × Lie)) : State :=
  { s with rie := { s.rie with holders := s.rie.holders.put p l } }
def setContext (s : State) (n : Nat) (c : Context) : State :=
  { s with rie := { s.rie with contexts := s.rie.contexts.put n c } }
def setHeldQueue (s : State) (l : List Nat) : State :=
  { s with rie := { s.rie with heldQueue := l } }
def setSignal (s : State) (x : Nat) (w : SignalWork) : State :=
  { s with sau := s.sau.put x w }
def setDistrict (s : State) (d : Nat) (w : DistrictWork) : State :=
  { s with dat := s.dat.put d w }
def setTrains (s : State) (t : Tab TrainWork) : State :=
  { s with td := { s.td with trains := t } }
def setTtc (s : State) (t : Ttc) : State := { s with ttc := t }
def setVpc (s : State) (v : Vpc) : State := { s with vpc := v }
def setRunner (s : State) (r : Runner) : State := { s with vpc := { s.vpc with runner := r } }
def setHl (s : State) (h : Hl) : State := { s with hl := h }
def setLts (s : State) (l : Lts) : State := { s with lts := l }

/-- A hand-off that the event in progress carries out later. -/
def post (s : State) (w : Work) : State := { s with work := s.work ++ [w] }

/-- A trigger for a re-scan of the held-request queue (R73). -/
def triggerRescan (s : State) : State := { s with rescanDue := true }

/-- The time base has come to `t`: an expiry command is taken at the time its timer names (log 2). -/
def reach (s : State) (t : Nat) : State := { s with now := max s.now t }

end State

/-! ## Time -/

/-- Milliseconds in units of the time base. -/
def ms (n : Nat) : Nat := n * 1000
/-- Tenths of a second in units of the time base. -/
def tenths (n : Nat) : Nat := n * 100000
/-- Seconds in units of the time base. -/
def seconds (n : Nat) : Nat := n * 1000000

/-- Time left of a timer; 0 when it is stopped. -/
def State.timeLeft (s : State) (t : Option Nat) : Nat :=
  match t with
  | some e => e - s.now
  | none => 0

/-! ## Events (R176, R177) -/

/-- The class is in the mask. -/
def Hl.admits (h : Hl) (c : EventClass) : Bool := h.mask.getLsbD c.bit

def eventCapacity : Nat := 64

/-- EVENTS_DROPPED with the count (R177). -/
def droppedRecord (n : Nat) : EventRec := eventOf .eventsDropped .mode 0 n

/-- Counts a discarded record, stopping at 65535 (R177). -/
def Hl.discard (h : Hl) : Hl := { h with dropped := min 65535 (h.dropped + 1) }

/-- Joins the tail if there is room, and is counted as lost otherwise (R177). -/
def Hl.join (h : Hl) (e : EventRec) : Hl :=
  if h.queue.length < eventCapacity then { h with queue := h.queue ++ [e] } else h.discard

/-- A report of lost records stands immediately before the first record that follows the loss (R177). -/
def Hl.reportLoss (h : Hl) : Hl :=
  if 0 < h.dropped ∧ h.queue.length < eventCapacity then
    { h with queue := h.queue ++ [droppedRecord h.dropped], dropped := 0 }
  else h

/-- R177: an event of a class in the mask is queued; of another class it is neither queued nor counted (R176). -/
def Hl.enqueue (h : Hl) (e : EventRec) : Hl :=
  if h.admits e.cls then h.reportLoss.join e else h

/-- Raises an event. -/
def raise (e : EventRec) (s : State) : State := s.setHl (s.hl.enqueue e)

/-- Changes the operating mode and raises MODE_CHANGED (R178). -/
def enterMode (m : Mode) (c : ModeCause) (s : State) : State :=
  let s := raise (eventOf .modeChanged .mode 0 m.code s.mode.code c.code) s
  s.setLts { s.lts with mode := m }

/-! ## Facts about the tables used by several blocks -/

/-- Configured addresses, rising. -/
def State.polled (s : State) : List Nat := (s.tables.nodes.filter fun e => e.2.kind != .absent).map (·.1)

/-- The DECK track piece (R12: at most one). -/
def State.deckTrack (s : State) : Option Nat :=
  s.tables.tracks.find fun _ r => r.kind == .deck

end Sys2Proof.Machine

namespace Sys2Proof

/-- Microsteps in a full turn (1.9). -/
def TurntableRec.turn (t : TurntableRec) : Nat := t.fullSteps * 2 ^ t.microShift

/-- N, 0 without a turntable. -/
def Tables.turn (t : Tables) : Nat :=
  match t.turntable with
  | some r => r.turn
  | none => 0

/-- pos[r] (1.10). -/
def Tables.roadPos (t : Tables) (r : RoadRec) : Nat :=
  match t.turntable with
  | some tt => r.position * 2 ^ tt.microShift
  | none => r.position

/-- The road at a microstep position; 0 for none. -/
def Tables.roadAt (t : Tables) (pos : Nat) : Nat :=
  ((t.roads.find fun _ r => t.roadPos r == pos)).getD 0

/-- The road that deck end `e` faces with the deck at `p` (R6); 0 for none. -/
def Tables.faced (t : Tables) (p : Nat) : DeckEnd → Nat
  | .end1 => t.roadAt p
  | .end2 => t.roadAt ((p + t.turn / 2) % t.turn)

def TrackEnd.other : TrackEnd → TrackEnd
  | .a => .b
  | .b => .a

def TrackRec.link (r : TrackRec) : TrackEnd → Link
  | .a => r.endA
  | .b => r.endB

/-- The end of a track piece whose link satisfies `f`, A first. -/
def TrackRec.endWhere (r : TrackRec) (f : Link → Bool) : Option TrackEnd :=
  if f r.endA then some .a else if f r.endB then some .b else none

/-- The link names the track piece `t` (R5). -/
def Link.names (t : Nat) : Link → Bool
  | .track u => u == t
  | .point _ n r => n == t || r == t
  | _ => false

end Sys2Proof

namespace Sys2Proof.Machine

/-- The moving states (R126). -/
def TtcState.isMoving : TtcState → Bool
  | .homing | .unbolting | .moving | .settling | .bolting => true
  | _ => false

def Ttc.face (t : Ttc) : DeckEnd → Nat
  | .end1 => t.face1
  | .end2 => t.face2

/-- TTC is ALIGNED at road `r` with deck end `e` (R130). -/
def Ttc.alignedAt (t : Ttc) (r : Nat) (e : DeckEnd) : Bool :=
  t.state == .aligned && t.face e == r

/-- bolt_in as it is reported: OUT with no bolt configured (R128). -/
def State.boltIn (s : State) : Bool :=
  match s.tables.turntable with
  | some t => t.boltPresent && s.ttc.boltLevel
  | none => false

end Sys2Proof.Machine
end

