-- ==== Sys2Proof/Machine/Throws.lean ====
section
/-! DEFINITION. PTS: placing and withdrawing throw orders (R41, R42), the drive slots (R43) and the drive commands
(R44). How an order ends is in ThrowEnds. -/

namespace Sys2Proof

/-- The length of a point's pulse in milliseconds (1.5). -/
def PointRec.pulseMs (r : PointRec) : Nat := 40 + 20 * r.pulseCode.getD 0

/-- The point's drive is a motor's (1.5). -/
def PointRec.isMotor (r : PointRec) : Bool := r.driveKind == .motor

/-- The command that drives a point to a lie (R44). -/
def PointRec.driveFor (r : PointRec) (lie : Lie) : Machine.DriveCommand :=
  match r.driveKind with
  | .solenoid => .pulse lie r.pulseMs
  | .motor => .run lie

end Sys2Proof

namespace Sys2Proof.Machine

/-- The state of a point's node. -/
def State.pointNode (s : State) (p : Nat) : NodeState :=
  match s.pointRec p with
  | some r => (s.node r.drvNode).state
  | none => .absent

/-- A placement for a point of this node fails at once (R41). -/
def NodeState.isLost : NodeState → Bool
  | .lost | .mismatch | .absent => true
  | .census | .online | .missing => false

/-- The next command number: 255 is followed by 1 (R44). -/
def nextNumber (last : Nat) : Nat := if last = 255 then 1 else last + 1

/-- Gives a command the next number (R44). -/
def PointWork.command (w : PointWork) (c : DriveCommand) : PointWork :=
  { w with driveCommand := c, commandNumber := nextNumber w.lastNumber, lastNumber := nextNumber w.lastNumber }

/-- The command becomes NONE with number 0. -/
def PointWork.idle (w : PointWork) : PointWork :=
  { w with driveCommand := .none, commandNumber := 0 }

/-- order_state is NONE. -/
def PointWork.free (w : PointWork) : Bool := w.order.isNone

/-- The lowest free slot of the drive budget (R43). -/
def State.freeSlot (s : State) : Option Nat :=
  ((List.range s.general.driveBudget).map (· + 1)).find? fun n => s.slot n == .free

/-- The oldest queued order whose node is ONLINE (R43). -/
def State.eligibleOrder (s : State) : Option Nat :=
  s.pts.queue.find? fun p => s.pointNode p == .online

/-- Takes the order of point `p` into slot `n` (R43, R44). -/
def takeOrder (n p : Nat) (s : State) : State :=
  match s.pointRec p, (s.point p).order with
  | some r, some o =>
    let o := { o with phase := .sent, takenAt := some s.now, limitAt := some (s.now + tenths r.throwLimit) }
    let s := s.setPoint p { (s.point p).command (r.driveFor o.lie) with order := some o }
    (s.setThrowQueue (s.pts.queue.filter (· != p))).setSlot n (.busy p none)
  | _, _ => s

/-- PTS looks until no slot is free or no order is eligible (R43). -/
def lookFrom : Nat → State → State
  | 0, s => s
  | k + 1, s =>
    match s.freeSlot, s.eligibleOrder with
    | some n, some p => lookFrom k (takeOrder n p s)
    | _, _ => s

/-- The look of R43. There are at most 4 slots. -/
def look (s : State) : State := lookFrom 4 s

/-- POINT_FAILED (R48). -/
def failRecord (s : State) (p : Nat) (lie : Lie) (c : ThrowFailure) : EventRec :=
  eventOf .pointFailed .points p (lieCode lie) c.code (s.detected p).code

/-- How PTS decides a placement (R41). -/
inductive Placed where
  | made | merged | busy
  /-- The order failed at once with NODE_LOST. -/
  | lost
  deriving DecidableEq, Repr

/-- The requester joins unless it is on the list already (R41). -/
def joinRequesters (l : List Requester) (q : Option Requester) : List Requester :=
  match q with
  | some r => if l.contains r then l else l ++ [r]
  | none => l

/-- A placement (R41). No requester stands for REDRIVE. -/
def placeOrder (p : Nat) (lie : Lie) (c : ThrowCause) (q : Option Requester) (s : State) : State × Placed :=
  let w := s.point p
  match w.order with
  | some o =>
    if o.lie = lie then
      (s.setPoint p { w with order := some { o with requesters := joinRequesters o.requesters q } }, .merged)
    else (s, .busy)
  | none =>
    if (s.pointNode p).isLost then
      let s := s.setPoint p { w with failed := true }
      ((raise (failRecord s p lie .nodeLost) s).triggerRescan, .lost)
    else
      let o : Order := { lie, cause := c, requesters := q.toList, placedAt := s.now }
      (look ((s.setPoint p { w with order := some o }).setThrowQueue (s.pts.queue ++ [p])), .made)

/-- A withdrawal by a context (R42): the state, and whether the context was taken off a queued order. -/
def withdrawClaim (p ctx : Nat) (s : State) : State × Bool :=
  let w := s.point p
  match w.order with
  | some o =>
    if o.phase = .waiting && o.requesters.contains (.context ctx) then
      let rest := o.requesters.filter (· != .context ctx)
      if rest.isEmpty && (o.cause == .setting || o.cause == .restore) then
        (((s.setPoint p { w with order := none }).setThrowQueue (s.pts.queue.filter (· != p))).triggerRescan, true)
      else (s.setPoint p { w with order := some { o with requesters := rest } }, true)
    else (s, false)
  | none => (s, false)

/-- A slot whose point has been driven and is not released yet keeps its release time; a slot in SENT gets one from
the time of the end (R48, R49, R53). -/
def State.slotsOf (s : State) (p : Nat) : List Nat :=
  ((List.range 4).map (· + 1)).filter fun n => s.slot n == .busy p none

/-- Every slot that is busy for `p` and has no release time becomes `w`. -/
def settleSlots (p : Nat) (w : Slot) (s : State) : State :=
  (s.slotsOf p).foldl (fun s n => s.setSlot n w) s

/-- The time at which a pulse given at `t` lets its slot go (R45). -/
def State.pulseRelease (s : State) (r : PointRec) (t : Nat) : Nat := t + ms r.pulseMs + ms s.general.rechargeMs

/-- A point is both commanded and detected in a lie (R39). -/
def State.liesAt (s : State) (p : Nat) (lie : Lie) : Bool :=
  (s.point p).commanded == some lie &&
    (match lie, s.detected p with
     | .normal, .normal => true
     | .reverse, .reverse => true
     | _, _ => false)

/-- The point has an order, queued or in flight. -/
def State.hasOrder (s : State) (p : Nat) : Bool := !(s.point p).free

end Sys2Proof.Machine
end

