-- ==== Sys2Proof/Machine/Access.lean ====
section
/-! DEFINITION. The access checks of DAT (spec 4.2). -/

namespace Sys2Proof.Machine

/-- What a route, script, point or district check gives (R56 to R58). -/
inductive Access where
  | pass | noAuthority | localRelease
  deriving DecidableEq, Repr

/-- The district is under local release (4.1). -/
def DistrictWork.released (w : DistrictWork) : Bool := w.releaseHolder != 0

/-- The base check of an origin in a district (R55). -/
def DistrictWork.base (w : DistrictWork) : Origin → Bool
  | .auto => true
  | .desk d => w.owner == d || w.shared || w.owner == 0
  | .visitor => w.visitorClass == .opened || (w.visitorClass == .openUnattended && w.owner == 0)
  | .restore | .other _ => false

/-- The check of an origin over a set of districts (R56). -/
def State.setCheck (s : State) (o : Origin) (set : List Nat) : Access :=
  if set.all fun d => (s.district d).base o then
    if set.any fun d => (s.district d).released then .localRelease else .pass
  else .noAuthority

def State.routeSet (s : State) (q : Nat) : List Nat := s.lts.routeSets.getD q []
def State.scriptSet (s : State) (k : Nat) : List Nat := s.lts.scriptSets.getD k []

/-- The route check (R56). -/
def State.routeCheck (s : State) (o : Origin) (q : Nat) : Access := s.setCheck o (s.routeSet q)

/-- The script check (R56). -/
def State.scriptCheck (s : State) (k : Nat) : Access := s.setCheck .visitor (s.scriptSet k)

/-- The district check (R58). -/
def State.districtCheck (s : State) (o : Origin) (d : Nat) : Access :=
  let w := s.district d
  if w.released then
    if o = .desk w.releaseHolder then .pass else .localRelease
  else if w.base o then .pass else .noAuthority

/-- The point check is made in the point's district, in the same way (R57). -/
def State.pointCheck (s : State) (o : Origin) (p : Nat) : Access :=
  match s.pointRec p with
  | some r => s.districtCheck o r.district
  | none => .noAuthority

/-- The reply that a failed check is turned into (R57, R58). -/
def Access.refusal : Access → Option ResultCode
  | .pass => none
  | .noAuthority => some .noAuthority
  | .localRelease => some .localRelease

/-- The working records take the stored values, and no release stands (R54). -/
def copyDistricts (s : State) : State :=
  { s with dat := ((List.range 8).map (· + 1)).map fun d =>
      let r := s.districtRec d
      (d, { owner := r.owner, shared := r.shared, visitorClass := r.visitorClass, releaseHolder := 0 }) }

/-- Every release_holder is set to 0 (R54, warm restart). -/
def endReleases (s : State) : State :=
  { s with dat := s.dat.map fun e => (e.1, { e.2 with releaseHolder := 0 }) }

end Sys2Proof.Machine
end

