-- ==== Sys2Proof/Machine/Planning.lean ====
section
/-! DEFINITION. The turntable position arithmetic (spec chapter 9), over the TURNTABLE and ROAD records alone. -/

namespace Sys2Proof

/-- `x` wrapped into (−n/2, n/2] (R134, R152). -/
def wrapHalf (n : Nat) (x : Int) : Int :=
  let d := x % (n : Int)
  if 2 * d ≤ (n : Int) then d else d - n

namespace TurntableRec

/-- Stage 1: the target of a deck end for a road at `pos` (R145). -/
def target (t : TurntableRec) (pos : Nat) : DeckEnd → Nat
  | .end1 => pos
  | .end2 => (pos + t.turn / 2) % t.turn

/-- Stage 2: the shortest way round from `p` to `goal` (R146). -/
def shortWay (t : TurntableRec) (p goal : Nat) : Int :=
  let n : Int := t.turn
  let d : Int := ((goal : Int) - p) % n
  if 2 * d < n then d
  else if 2 * d = n then (match t.preferredDir with
    | .cw => d
    | .ccw => -d)
  else d - n

/-- Stage 4: the legs of a displacement, the last one CW (R148). -/
def legsOf (t : TurntableRec) (d : Int) : List Int :=
  if 0 < d then [d]
  else if d = 0 then []
  else if t.backlash = 0 then [d] else [d - t.backlash, t.backlash]

/-- The furthest value of A that a displacement's legs pass through (R149). -/
def reachOf (t : TurntableRec) (a d : Int) : Int :=
  if 0 ≤ d then a + d else a + d - t.backlash

/-- A reach within the winding limit (R149). -/
def inWinding (t : TurntableRec) (r : Int) : Bool :=
  decide (-(t.windingLimit : Int) ≤ r) && decide (r ≤ t.windingLimit)

/-- The long way round to the same target (R149). -/
def longWay (t : TurntableRec) (d : Int) : Int :=
  if 0 < d then d - t.turn else d + t.turn

/-- Stage 5: the displacement kept, replaced by the long way, or refused (R149). -/
def boundWinding (t : TurntableRec) (a d : Int) : Option Int :=
  if t.windingLimit = 0 ∨ d = 0 then some d
  else if t.inWinding (t.reachOf a d) then some d
  else if t.inWinding (t.reachOf a (t.longWay d)) then some (t.longWay d)
  else none

/-- Stages 2, 4 and 5 to one target: the legs, or `none` for WINDING_LIMIT. -/
def planTo (t : TurntableRec) (p : Nat) (a : Int) (goal : Nat) : Option (List Int) :=
  (t.boundWinding a (t.shortWay p goal)).map t.legsOf

/-- Stage 3: the end for a request (R147). -/
def chooseEnd (t : TurntableRec) (p pos : Nat) (allowed : EndsAllowed) : DeckEndAsked → DeckEnd
  | .end1 => .end1
  | .end2 => .end2
  | .either =>
    match allowed with
    | .end1 => .end1
    | .end2 => .end2
    | .both =>
      if (t.shortWay p (t.target pos .end2)).natAbs < (t.shortWay p (t.target pos .end1)).natAbs then .end2 else .end1

/-- Stage 6: the rate of the step of index `i` in a leg of length `len` (R150). -/
def rateOf (t : TurntableRec) (len i : Nat) : Nat :=
  let k := min i (len - 1 - i)
  if k < t.rampSteps then t.startRate + (t.topRate - t.startRate) * k / t.rampSteps else t.topRate

end TurntableRec

/-- The interval of a step in microseconds (R150). -/
def stepInterval (rate : Nat) : Nat := 1000000 / rate

/-- Stage 7: the length of a leg shortened by a delayed stop (R151). -/
def stoppedLength (len i : Nat) : Nat := i + min i (len - 1 - i) + 1

/-- The least and the greatest value of A (R150). -/
def aMin : Int := -2147483648
def aMax : Int := 2147483647

/-- Position and accumulated position after a step (R150). -/
def stepped (n : Nat) (p : Nat) (a : Int) (d : Turn) : Nat × Int :=
  let p' := match d with
    | .cw => (p + 1) % n
    | .ccw => (p + n - 1) % n
  let a' := match d with
    | .cw => a + 1
    | .ccw => a - 1
  (p', if a' < aMin ∨ aMax < a' then (p' : Int) else a')

end Sys2Proof
end

