-- ==== Sys2Proof/Machine/Operands.lean ====
section
/-! DEFINITION. The operands of a host request: from the bytes of 11.8 to the values they stand for. A byte that is
no code of its field gives `none`, and the owner of the request judges it as out of range. -/

namespace Sys2Proof.Machine

/-- An origin code (R174): 0 is AUTO, 1 to 8 are desks, any other is an origin other than these. -/
def originOf (b : Byte) : Origin :=
  if b.toNat = 0 then .auto else if b.toNat ≤ 8 then .desk b.toNat else .other b.toNat

/-- AUTO or DESK 1 to 8. -/
def Origin.isHost : Origin → Bool
  | .auto => true
  | .desk d => decide (1 ≤ d ∧ d ≤ 8)
  | _ => false

/-- AUTO, DESK 1 to 8 or VISITOR. -/
def Origin.mayRequest (o : Origin) : Bool :=
  o.isHost || o == .visitor

/-- 1 NORMAL, 2 REVERSE. -/
def lieOf (b : Byte) : Option Lie :=
  if b.toNat = 1 then some .normal else if b.toNat = 2 then some .reverse else none

/-- 0 NO or OFF, 1 YES or ON. -/
def yesNoOf (b : Byte) : Option Bool :=
  if b.toNat = 0 then some false else if b.toNat = 1 then some true else none

def visitorClassOf (b : Byte) : Option VisitorClass :=
  if b.toNat = 0 then some .closed else if b.toNat = 1 then some .opened
  else if b.toNat = 2 then some .openUnattended else none

/-- 0 A, 1 B. -/
def trackEndOf (b : Byte) : Option TrackEnd :=
  if b.toNat = 0 then some .a else if b.toNat = 1 then some .b else none

def trainClassOf (b : Byte) : Option TrainClass :=
  if b.toNat = 0 then some .passenger else if b.toNat = 1 then some .freight
  else if b.toNat = 2 then some .light else if b.toNat = 3 then some .visitor else none

/-- 1 END1, 2 END2, 3 ANY. -/
def deckEndOf (b : Byte) : Option DeckEndAsked :=
  if b.toNat = 1 then some .end1 else if b.toNat = 2 then some .end2
  else if b.toNat = 3 then some .either else none

/-- A–Z or 0–9. -/
def isCodeByte (b : Byte) : Bool :=
  (decide (0x41 ≤ b.toNat ∧ b.toNat ≤ 0x5A)) || (decide (0x30 ≤ b.toNat ∧ b.toNat ≤ 0x39))

/-- Letters a–z folded to upper case (R2, R111). -/
def foldByte (b : Byte) : Byte :=
  if 0x61 ≤ b.toNat ∧ b.toNat ≤ 0x7A then b - 0x20#8 else b

/-- The characters of a six-byte code field, without the bytes 0x00 after them (11.8). -/
def codeBytes (c : List Byte) : List Byte :=
  (c.reverse.dropWhile (· == 0#8)).reverse

/-- The code of a train, folded; `none` where it is empty, longer than 6, or holds another character (R111 case 2). -/
def trainCodeOf (c : List Byte) : Option (List Byte) :=
  let k := (codeBytes c).map foldByte
  if 1 ≤ k.length ∧ k.length ≤ 6 ∧ k.all isCodeByte then some k else none

/-- A message text as MESSAGE_PUT stores it (R168): its first 40 characters, others than 0x20 to 0x7E as spaces. -/
def messageText (t : List Byte) : List Byte :=
  (t.take 40).map fun b => if 0x20 ≤ b.toNat ∧ b.toNat ≤ 0x7E then b else 0x20#8

/-- Each number once, in the order first given (R170). -/
def withoutRepeats : List Nat → List Nat
  | [] => []
  | k :: l => k :: (withoutRepeats l).filter (· != k)

end Sys2Proof.Machine
end

