-- ==== Sys2Proof/Machine/Records.lean ====
section
/-! DEFINITION. The records of the layout tables: their range tests (R2, R10), the defaults a written record takes,
and writing, clearing and reading one record of the tables (R2, R3). -/

namespace Sys2Proof

/-- `lo ≤ v ≤ hi`. -/
def within (lo hi v : Nat) : Bool := decide (lo ≤ v) && decide (v ≤ hi)

/-! ## Range tests against the field tables (1.2 to 1.12) -/

def GeneralRec.inRange (r : GeneralRec) : Bool :=
  within 1 3 r.occupyCount && within 2 15 r.clearCount && within 1 10 r.replyWindow && within 1 4 r.driveBudget
    && within 100 2000 r.rechargeMs && r.rechargeMs % 100 == 0 && within 10 600 r.heldDefault
    && within 30 600 r.visitorWaitLimit && within 2 60 r.dwell

def Link.inRange : Link → Bool
  | .open | .buffer => true
  | .track t => within 1 128 t
  | .point p n r => within 1 64 p && within 1 128 n && within 1 128 r
  | .table e => within 0 2 e

def TrackRec.inRange (r : TrackRec) : Bool :=
  within 1 8 r.district && within 1 31 r.detNode && within 1 16 r.detInput && r.endA.inRange && r.endB.inRange

/-- pulse_code is present with SOLENOID and excluded with MOTOR (1.5). -/
def PointRec.inRange (r : PointRec) : Bool :=
  within 1 8 r.district && within 1 31 r.drvNode && within 1 8 r.drvChan
    && (match r.driveKind, r.pulseCode with
        | .solenoid, some c => within 0 7 c
        | .motor, none => true
        | _, _ => false)
    && within 5 100 r.throwLimit && within 1 128 r.track

def SignalRec.inRange (r : SignalRec) : Bool :=
  within 1 8 r.district && within 1 31 r.headNode && within 1 8 r.head

def Requirement.inRange (r : Requirement) : Bool :=
  within 1 64 r.point && within 0 12 r.release

def RouteRec.inRange (r : RouteRec) : Bool :=
  within 1 64 r.entry && within 0 64 r.exit && within 1 12 r.path.length && r.path.all (within 1 128)
    && within 0 12 r.reqs.length && r.reqs.all Requirement.inRange
    && within 0 2 r.overlap.length && r.overlap.all (within 1 128)
    && (match r.deck with
        | some d => within 1 24 d.1
        | none => true)
    && within 0 3 r.approach.length && r.approach.all (within 1 128)
    && within 0 240 r.approachTime && within 0 60 r.overlapTime

def DistrictRec.inRange (r : DistrictRec) : Bool := within 0 8 r.owner

/-- bolt_limit is present with a bolt and excluded without one (1.9). -/
def TurntableRec.inRange (r : TurntableRec) : Bool :=
  within 200 3200 r.fullSteps && within 0 4 r.microShift && within 0 51199 r.indexOffset
    && within 0 255 r.slipTolerance && within 0 127 r.backlash && within 0 1023 r.rampSteps
    && within 50 2000 r.startRate && within 50 4000 r.topRate && within 0 1048575 r.windingLimit
    && within 0 2000 r.settleMs
    && (match r.boltPresent, r.boltLimit with
        | true, some l => within 2 50 l
        | false, none => true
        | _, _ => false)
    && within 1 7 r.homeAttempts

def RoadRec.inRange (r : RoadRec) : Bool := within 0 3199 r.position && within 1 128 r.track

def ScriptStep.inRange : ScriptStep → Bool
  | .setRoute q | .cancelRoute q => within 1 192 q
  | .turnTable r _ => within 1 24 r
  | .waitArrival t d | .waitClear t d => within 1 128 t && within 1 600 d
  | .display n d => within 1 8 n && within 1 60 d
  | .pause d => within 1 600 d

def ScriptRec.inRange (r : ScriptRec) : Bool :=
  within 1 16 r.button
    && (match r.trainCode with
        | some c => within 1 6 c.length && c.all Machine.isCodeByte
        | none => true)
    && within 0 600 r.coolDown && within 10 900 r.maxRuntime && within 1 8 r.steps.length
    && r.steps.all ScriptStep.inRange

def BerthRec.inRange (r : BerthRec) : Bool := within 0 128 r.track

/-! ## A written record with its defaults (R2) -/

/-- A field left out takes its default, if it has one; bytes that name no value are a failure. -/
def Fld.resolve {α : Type} (f : Fld α) (dflt : Option α) : Option α :=
  match f with
  | .omitted => dflt
  | .bad => none
  | .given v => some v

/-- A field that is absent when left out. -/
def Fld.optional {α : Type} : Fld α → Option (Option α)
  | .omitted => some none
  | .bad => none
  | .given v => some (some v)

def RawGeneral.resolve (r : RawGeneral) : Option GeneralRec := do
  let occupyCount ← r.occupyCount.resolve (some 2)
  let clearCount ← r.clearCount.resolve (some 4)
  let replyWindow ← r.replyWindow.resolve (some 3)
  let driveBudget ← r.driveBudget.resolve (some 2)
  let rechargeMs ← r.rechargeMs.resolve (some 400)
  let heldDefault ← r.heldDefault.resolve (some 120)
  let visitorWaitLimit ← r.visitorWaitLimit.resolve (some 180)
  let dwell ← r.dwell.resolve (some 8)
  let visitorAtStart ← r.visitorAtStart.resolve (some false)
  some { occupyCount, clearCount, replyWindow, driveBudget, rechargeMs, heldDefault, visitorWaitLimit, dwell,
         visitorAtStart }

def RawTrack.resolve (r : RawTrack) : Option TrackRec := do
  let district ← r.district.resolve none
  let det ← r.detector.resolve none
  let kind ← r.kind.resolve (some .plain)
  let endA ← r.endA.resolve (some .open)
  let endB ← r.endB.resolve (some .open)
  some { district, detNode := det.1, detInput := det.2, kind, endA, endB }

def RawPoint.resolve (r : RawPoint) : Option PointRec := do
  let district ← r.district.resolve none
  let drive ← r.drive.resolve none
  let driveKind ← r.driveKind.resolve (some .solenoid)
  let pulse ← r.pulseCode.optional
  let pulseCode := match driveKind, pulse with
    | .solenoid, none => some 2
    | _, p => p
  let throwLimit ← r.throwLimit.resolve (some 30)
  let track ← r.track.resolve none
  some { district, drvNode := drive.1, drvChan := drive.2, driveKind, pulseCode, throwLimit, track }

def RawSignal.resolve (r : RawSignal) : Option SignalRec := do
  let district ← r.district.resolve none
  let head ← r.head.resolve none
  let kind ← r.kind.resolve (some .main3)
  let callOnHead ← r.callOnHead.resolve (some false)
  some { district, headNode := head.1, head := head.2, kind, callOnHead }

def RawRoute.resolve (r : RawRoute) : Option RouteRec := do
  let cls ← r.cls.resolve (some .main)
  let entry ← r.entry.resolve none
  let exit ← r.exit.resolve none
  let path ← r.path.resolve none
  let reqs ← r.reqs.resolve (some [])
  let overlap ← r.overlap.resolve (some [])
  let deck ← r.deck.optional
  let approach ← r.approach.resolve (some [])
  let approachTime ← r.approachTime.resolve (some 60)
  let overlapTime ← r.overlapTime.resolve (some 30)
  some { cls, entry, exit, path, reqs, overlap, deck, approach, approachTime, overlapTime }

def RawDistrict.resolve (r : RawDistrict) : Option DistrictRec := do
  let owner ← r.owner.resolve (some 0)
  let shared ← r.shared.resolve (some false)
  let visitorClass ← r.visitorClass.resolve (some .closed)
  some { owner, shared, visitorClass }

def RawTurntable.resolve (r : RawTurntable) : Option TurntableRec := do
  let fullSteps ← r.fullSteps.resolve none
  let microShift ← r.microShift.resolve (some 0)
  let indexOffset ← r.indexOffset.resolve (some 0)
  let slipTolerance ← r.slipTolerance.resolve (some 8)
  let backlash ← r.backlash.resolve (some 0)
  let rampSteps ← r.rampSteps.resolve (some 100)
  let startRate ← r.startRate.resolve (some 200)
  let topRate ← r.topRate.resolve (some 800)
  let preferredDir ← r.preferredDir.resolve (some .cw)
  let windingLimit ← r.windingLimit.resolve (some 0)
  let settleMs ← r.settleMs.resolve (some 300)
  let boltPresent ← r.boltPresent.resolve (some false)
  let limit ← r.boltLimit.optional
  let boltLimit := match boltPresent, limit with
    | true, none => some 10
    | _, l => l
  let homeAttempts ← r.homeAttempts.resolve (some 3)
  some { fullSteps, microShift, indexOffset, slipTolerance, backlash, rampSteps, startRate, topRate, preferredDir,
         windingLimit, settleMs, boltPresent, boltLimit, homeAttempts }

def RawRoad.resolve (r : RawRoad) : Option RoadRec := do
  let position ← r.position.resolve none
  let track ← r.track.resolve none
  let endsAllowed ← r.endsAllowed.resolve (some .both)
  some { position, track, endsAllowed }

/-- Letters a–z of the train code are folded before the range test (R2). -/
def RawScript.resolve (r : RawScript) : Option ScriptRec := do
  let button ← r.button.resolve none
  let code ← r.trainCode.optional
  let coolDown ← r.coolDown.resolve (some 60)
  let maxRuntime ← r.maxRuntime.resolve (some 180)
  let steps ← r.steps.resolve none
  some { button, trainCode := code.map (·.map Machine.foldByte), coolDown, maxRuntime, steps }

/-- A record that passes its range test. -/
def ifInRange {α : Type} (test : α → Bool) (r : Option α) : Option α :=
  r.filter test

/-! ## One record of the tables -/

/-- Highest index of each table (1.1); 0 for a number that is no table. -/
def indexLimit : Nat → Nat
  | 1 => 1 | 2 => 31 | 3 => 128 | 4 => 64 | 5 => 64 | 6 => 192 | 7 => 8 | 8 => 1 | 9 => 24 | 10 => 16 | 11 => 12
  | _ => 0

/-- The table number is 1 to 11 and the index in the table's range (R2, R3). -/
def addressesRecord (table index : Nat) : Bool :=
  decide (1 ≤ index) && decide (index ≤ indexLimit table)

/-- The CLEAR form (R2): absent, or an always-present record at its defaults. -/
def Tables.clearRecord (t : Tables) (table i : Nat) : Tables :=
  match table with
  | 1 => { t with general := {} }
  | 2 => { t with nodes := t.nodes.erase i }
  | 3 => { t with tracks := t.tracks.erase i }
  | 4 => { t with points := t.points.erase i }
  | 5 => { t with signals := t.signals.erase i }
  | 6 => { t with routes := t.routes.erase i }
  | 7 => { t with districts := t.districts.erase i }
  | 8 => { t with turntable := none }
  | 9 => { t with roads := t.roads.erase i }
  | 10 => { t with scripts := t.scripts.erase i }
  | 11 => { t with berths := t.berths.erase i }
  | _ => t

/-- Replaces a record whole, or `none` where a field fails (R2). A record that is none of the table's is a failure. -/
def Tables.writeRecord (t : Tables) (table i : Nat) (r : RawRecord) : Option Tables :=
  match table, r with
  | 1, .general r => (ifInRange GeneralRec.inRange r.resolve).map fun v => { t with general := v }
  | 2, .node k => (k.resolve (some .absent)).map fun v => { t with nodes := t.nodes.put i { kind := v } }
  | 3, .track r => (ifInRange TrackRec.inRange r.resolve).map fun v => { t with tracks := t.tracks.put i v }
  | 4, .point r => (ifInRange PointRec.inRange r.resolve).map fun v => { t with points := t.points.put i v }
  | 5, .signal r => (ifInRange SignalRec.inRange r.resolve).map fun v => { t with signals := t.signals.put i v }
  | 6, .route r => (ifInRange RouteRec.inRange r.resolve).map fun v => { t with routes := t.routes.put i v }
  | 7, .district r => (ifInRange DistrictRec.inRange r.resolve).map fun v => { t with districts := t.districts.put i v }
  | 8, .turntable r => (ifInRange TurntableRec.inRange r.resolve).map fun v => { t with turntable := some v }
  | 9, .road r => (ifInRange RoadRec.inRange r.resolve).map fun v => { t with roads := t.roads.put i v }
  | 10, .script r => (ifInRange ScriptRec.inRange r.resolve).map fun v => { t with scripts := t.scripts.put i v }
  | 11, .berth b =>
    (ifInRange BerthRec.inRange ((b.resolve (some 0)).map fun v => { track := v })).map
      fun v => { t with berths := t.berths.put i v }
  | _, _ => none

/-- The stored record, with every field; `none` where it is absent (R3). -/
def Tables.readRecord (t : Tables) (table i : Nat) : Option Machine.StoredRecord :=
  match table with
  | 1 => some (.general t.general)
  | 2 => some (.node (t.nodes.getD i {}))
  | 3 => (t.tracks.get? i).map .track
  | 4 => (t.points.get? i).map .point
  | 5 => (t.signals.get? i).map .signal
  | 6 => (t.routes.get? i).map .route
  | 7 => some (.district (t.districts.getD i {}))
  | 8 => t.turntable.map .turntable
  | 9 => (t.roads.get? i).map .road
  | 10 => (t.scripts.get? i).map .script
  | 11 => some (.berth (t.berths.getD i {}))
  | _ => none

end Sys2Proof
end

