-- ==== Sys2Proof/Machine/Check.lean ====
section
/-! DEFINITION. The configuration check (spec 1.13), the route walk it builds (R8) and the touched-district sets that a
passing check derives (1.14). All of it is a computation over the tables alone. -/

namespace Sys2Proof

/-- Check codes in the order of their numbers, from 0 (1.13). -/
inductive CheckCode where
  | pass | fieldRange | panelTwice | boardTwice | noSections | detectorNotDetect | detectorTwice | tableLinkKind
  | deckTwice | linkTargetAbsent | linkLoop | linkNotReturned | pointLinkTwice | pointNotPointNode | pointChannelTwice
  | pointNoLink | pointSectionWrong | signalNotSignalNode | signalHeadTwice | callOnHeadKind | turntableDeckMismatch
  | nOdd | indexOffsetRange | slipToleranceLarge | windingLimitSmall | rateOrder | roadPositionRange | roadPositionTwice
  | roadSectionKind | roadSectionTwice | roadSectionUnused | routeSignalAbsent | routeClassSignal | routePathShort
  | routeSectionBad | routePointAbsent | routePointTwice | routeDeckField | routeBufferExit | routeNotAWalk
  | routeOverlapNotAWalk | routePointRole | routeReleaseIndex | scriptButtonTwice | scriptRefBad | scriptCancelNotSet
  | berthSectionAbsent
  deriving DecidableEq, Repr

/-- The number of a check code (1.13). -/
def CheckCode.code (c : CheckCode) : Nat := c.ctorIdx

/-- The result of a check: a code, a table number and an index (R9). -/
structure CheckResult where
  code : CheckCode := .pass
  table : Nat := 0
  index : Nat := 0
  deriving DecidableEq, Repr

/-- A failure with `code` unless `test` holds. -/
def demand (test : Bool) (code : CheckCode) : Option CheckCode :=
  if test then none else some code

/-- Reports a failure at a record. -/
def atRecord (table index : Nat) (f : Option CheckCode) : Option CheckResult :=
  f.map fun code => { code, table, index }

/-- No number occurs twice. -/
def distinctNumbers : List Nat → Bool
  | [] => true
  | k :: l => !l.contains k && distinctNumbers l

namespace Tables

def nodeKind (t : Tables) (a : Nat) : NodeKind := (t.nodes.getD a {}).kind

/-- The range test fails on a record the memory gave damaged (R10). -/
def sound (dmg : List (Nat × Nat)) (table i : Nat) (inRange : Bool) : Option CheckCode :=
  demand (inRange && !dmg.contains (table, i)) .fieldRange

/-! ## NODE pass (R11) -/

def nodeTest (t : Tables) (dmg : List (Nat × Nat)) (a : Nat) : Option CheckCode :=
  let lower (k : NodeKind) := (List.range a).any fun b => t.nodeKind b == k && decide (1 ≤ b)
  sound dmg 2 a true
  <|> demand (!(t.nodeKind a == .panel && lower .panel)) .panelTwice
  <|> demand (!(t.nodeKind a == .board && lower .board)) .boardTwice

/-- The test at the end of the pass. -/
def tracksPresent (t : Tables) : Option CheckCode := demand (!t.tracks.isEmpty) .noSections

def nodePass (t : Tables) (dmg : List (Nat × Nat)) : Option CheckResult :=
  ((List.range 31).map (· + 1)).findSome? (fun a => atRecord 2 a (t.nodeTest dmg a))
  <|> atRecord 3 0 t.tracksPresent

/-! ## SECTION pass (R12) -/

/-- The TABLE links suit the kind (R12 test 3). -/
def tableLinksSuit (r : TrackRec) : Bool :=
  let isTable : Link → Bool := fun l => match l with
    | .table _ => true
    | _ => false
  match r.kind with
  | .plain => !isTable r.endA && !isTable r.endB
  | .road => (r.endA == .table 0 && !isTable r.endB) || (r.endB == .table 0 && !isTable r.endA)
  | .deck => (r.endA == .table 1 && r.endB == .table 2) || (r.endA == .table 2 && r.endB == .table 1)

/-- The track pieces a link names. -/
def linkTracks : Link → List Nat
  | .track u => [u]
  | .point _ n r => [n, r]
  | _ => []

/-- Everything a link names is present (R12 test 5). -/
def linkTargetsPresent (t : Tables) (l : Link) : Bool :=
  (linkTracks l).all t.tracks.has && (match l with
    | .point p _ _ => t.points.has p
    | _ => true)

/-- The link has its return (R12 test 7). -/
def linkReturned (t : Tables) (s : Nat) (l : Link) : Bool :=
  match l with
  | .track u => (t.tracks.get? u).any fun r => r.endA.names s || r.endB.names s
  | .point _ n r =>
    [n, r].all fun u => (t.tracks.get? u).any fun v => v.endA == .track s || v.endB == .track s
  | _ => true

/-- The point whose toe a link is. -/
def linkPoint : Link → List Nat
  | .point p _ _ => [p]
  | _ => []

def trackPoints (r : TrackRec) : List Nat := linkPoint r.endA ++ linkPoint r.endB

/-- The tests of one track piece, in the order of R12. The eighth looks at track pieces of lower index alone, as R12 words
it: a track piece with POINT links for the same point at both its ends passes, though R13 and R18 have each point in exactly
one POINT link. That it passes is the model's choice (log 21). -/
def trackTest (t : Tables) (dmg : List (Nat × Nat)) (s : Nat) (r : TrackRec) : Option CheckCode :=
  let lower (f : TrackRec → Bool) := t.tracks.any fun e => decide (e.1 < s) && f e.2
  let named := linkTracks r.endA ++ linkTracks r.endB
  sound dmg 3 s r.inRange
  <|> demand (t.nodeKind r.detNode == .detect) .detectorNotDetect
  <|> demand (!lower fun q => q.detNode == r.detNode && q.detInput == r.detInput) .detectorTwice
  <|> demand (tableLinksSuit r) .tableLinkKind
  <|> demand (!(r.kind == .deck && lower fun q => q.kind == .deck)) .deckTwice
  <|> demand (t.linkTargetsPresent r.endA && t.linkTargetsPresent r.endB) .linkTargetAbsent
  <|> demand (!named.contains s && distinctNumbers named) .linkLoop
  <|> demand (t.linkReturned s r.endA && t.linkReturned s r.endB) .linkNotReturned
  <|> demand (!lower fun q => (trackPoints q).any (trackPoints r).contains) .pointLinkTwice

def trackPass (t : Tables) (dmg : List (Nat × Nat)) : Option CheckResult :=
  t.tracks.findSome? fun e => atRecord 3 e.1 (t.trackTest dmg e.1 e.2)

/-! ## POINT and SIGNAL passes (R13) -/

def pointTest (t : Tables) (dmg : List (Nat × Nat)) (p : Nat) (r : PointRec) : Option CheckCode :=
  sound dmg 4 p r.inRange
  <|> demand (t.nodeKind r.drvNode == .point) .pointNotPointNode
  <|> demand (!t.points.any fun e => decide (e.1 < p) && e.2.drvNode == r.drvNode && e.2.drvChan == r.drvChan)
        .pointChannelTwice
  <|> demand (t.tracks.any fun e => (trackPoints e.2).contains p) .pointNoLink
  <|> demand ((t.tracks.get? r.track).any fun q => (trackPoints q).contains p) .pointSectionWrong

def pointPass (t : Tables) (dmg : List (Nat × Nat)) : Option CheckResult :=
  t.points.findSome? fun e => atRecord 4 e.1 (t.pointTest dmg e.1 e.2)

def signalTest (t : Tables) (dmg : List (Nat × Nat)) (x : Nat) (r : SignalRec) : Option CheckCode :=
  sound dmg 5 x r.inRange
  <|> demand (t.nodeKind r.headNode == .signal) .signalNotSignalNode
  <|> demand (!t.signals.any fun e => decide (e.1 < x) && e.2.headNode == r.headNode && e.2.head == r.head)
        .signalHeadTwice
  <|> demand (!r.callOnHead || r.kind == .main3 || r.kind == .main4) .callOnHeadKind

def signalPass (t : Tables) (dmg : List (Nat × Nat)) : Option CheckResult :=
  t.signals.findSome? fun e => atRecord 5 e.1 (t.signalTest dmg e.1 e.2)

/-! ## TURNTABLE and ROAD pass (R14) -/

def hasDeck (t : Tables) : Bool := t.tracks.any fun e => e.2.kind == .deck

def turntableTest (dmg : List (Nat × Nat)) (r : TurntableRec) : Option CheckCode :=
  sound dmg 8 1 r.inRange
  <|> demand (r.turn % 2 == 0) .nOdd
  <|> demand (r.indexOffset < r.turn) .indexOffsetRange
  <|> demand (r.slipTolerance ≤ r.turn / 8) .slipToleranceLarge
  <|> demand (r.windingLimit == 0 || decide (r.turn + r.backlash ≤ 2 * r.windingLimit)) .windingLimitSmall
  <|> demand (r.startRate ≤ r.topRate) .rateOrder

def roadTest (t : Tables) (dmg : List (Nat × Nat)) (tt : TurntableRec) (i : Nat) (r : RoadRec) : Option CheckCode :=
  let lower (f : RoadRec → Bool) := t.roads.any fun e => decide (e.1 < i) && f e.2
  sound dmg 9 i r.inRange
  <|> demand (r.position < tt.fullSteps) .roadPositionRange
  <|> demand (!lower fun q => q.position == r.position) .roadPositionTwice
  <|> demand ((t.tracks.get? r.track).any fun q => q.kind == .road) .roadSectionKind
  <|> demand (!lower fun q => q.track == r.track) .roadSectionTwice

/-- The test at the start of the pass. -/
def turntableMatches (t : Tables) : Option CheckCode :=
  let roadKind := t.tracks.any fun e => e.2.kind == .road
  demand (t.turntable.isSome == t.hasDeck && (t.turntable.isSome || (t.roads.isEmpty && !roadKind)))
    .turntableDeckMismatch

/-- The test at the end of the pass, on track piece `s`. -/
def roadUsed (t : Tables) (s : Nat) (r : TrackRec) : Option CheckCode :=
  demand (!(r.kind == .road) || t.roads.any fun q => q.2.track == s) .roadSectionUnused

def tablePass (t : Tables) (dmg : List (Nat × Nat)) : Option CheckResult :=
  atRecord 8 1 t.turntableMatches
  <|> (match t.turntable with
    | none => none
    | some tt =>
      atRecord 8 1 (turntableTest dmg tt)
      <|> t.roads.findSome? (fun e => atRecord 9 e.1 (t.roadTest dmg tt e.1 e.2))
      <|> t.tracks.findSome? (fun e => atRecord 3 e.1 (t.roadUsed e.1 e.2)))

/-! ## The route walk (R8) -/

/-- A step of the walk: the track piece reached, the end it is entered by, and the point crossed with its containing
track piece. -/
structure WalkStep where
  onto : Nat
  enteredBy : TrackEnd
  crossed : Option (Nat × Nat)
  deriving DecidableEq, Repr

/-- The lie a route requires of a point. -/
def requiredLie (q : RouteRec) (p : Nat) : Option Lie :=
  (q.reqs.find? fun r => r.point == p).map (·.lie)

/-- The leg of a point that a route requires to be set; `none` where it requires nothing of the point. -/
def requiredLeg (q : RouteRec) (p n r : Nat) : Option Nat :=
  (requiredLie q p).map fun l => match l with
    | .normal => n
    | .reverse => r

/-- The position at which the deck stands for a route's deck field (R6). -/
def deckPosition (t : Tables) (q : RouteRec) : Option Nat :=
  q.deck.bind fun (r, e) => (t.roads.get? r).map fun road => match e with
    | .end1 => t.roadPos road
    | .end2 => (t.roadPos road + t.turn / 2) % t.turn

/-- The track piece of the road that deck end `e` faces with the deck at `pos`. -/
def facedTrack (t : Tables) (pos : Nat) (e : DeckEnd) : Option Nat :=
  (t.roads.get? (t.faced pos e)).map (·.track)

/-- The end of the deck that is deck end `e` (R5). -/
def deckTrackEnd (t : Tables) (deck : Nat) (e : DeckEnd) : Option TrackEnd :=
  (t.tracks.get? deck).bind fun r => r.endWhere fun l => match e with
    | .end1 => l == .table 1
    | .end2 => l == .table 2

/-- The DECK track piece. -/
def deckIndex (t : Tables) : Option Nat := t.tracks.find fun _ r => r.kind == .deck

/-- The end of `u` that a link from `s` points back to (R5). -/
def returnEnd (t : Tables) (u s : Nat) : Option TrackEnd :=
  (t.tracks.get? u).bind fun r => r.endWhere fun l => l.names s

/-- The deck end whose road is the track piece `s` with the deck at `pos`. -/
def endFacing (t : Tables) (pos s : Nat) : Option DeckEnd :=
  if t.facedTrack pos .end1 = some s then some .end1
  else if t.facedTrack pos .end2 = some s then some .end2 else none

/-- The step from `s` across its end `x` under the requirements of route `q` (R8). -/
def routeStep (t : Tables) (q : RouteRec) (s : Nat) (x : TrackEnd) : Option WalkStep := do
  let r ← t.tracks.get? s
  match r.link x with
  | .open | .buffer => none
  | .track u =>
    let e ← t.returnEnd u s
    let v ← t.tracks.get? u
    match v.link e with
    | .point p n w => if requiredLeg q p n w = some s then some ⟨u, e, some (p, u)⟩ else none
    | _ => some ⟨u, e, none⟩
  | .point p n w =>
    let u ← requiredLeg q p n w
    let e ← t.returnEnd u s
    some ⟨u, e, some (p, s)⟩
  | .table 0 =>
    let pos ← t.deckPosition q
    let e ← t.endFacing pos s
    let d ← t.deckIndex
    let y ← t.deckTrackEnd d e
    some ⟨d, y, none⟩
  | .table k =>
    let pos ← t.deckPosition q
    let u ← t.facedTrack pos (if k = 1 then .end1 else .end2)
    let v ← t.tracks.get? u
    let e ← v.endWhere fun l => l == .table 0
    some ⟨u, e, none⟩

/-- A walk that leaves `s` by its end `x` and reaches the track pieces of the list in turn: the leaving end of the last
and the points crossed. -/
def walkOn (t : Tables) (q : RouteRec) : Nat → TrackEnd → List Nat → Option (TrackEnd × List (Nat × Nat))
  | _, x, [] => some (x, [])
  | s, x, u :: rest => do
    let st ← t.routeStep q s x
    if st.onto = u then
      let (y, crossed) ← walkOn t q u st.enteredBy.other rest
      some (y, st.crossed.toList ++ crossed)
    else none

/-- A walk from the first of a list, which may be left by either end. -/
def walkEither (t : Tables) (q : RouteRec) : List Nat → Option (TrackEnd × List (Nat × Nat))
  | [] => none
  | s :: rest => t.walkOn q s .a rest <|> t.walkOn q s .b rest

/-- The leaving end of the last path track piece and the points that path steps cross (R8). -/
def pathWalk (t : Tables) (q : RouteRec) : Option (TrackEnd × List (Nat × Nat)) :=
  match q.path with
  | [s] =>
    match q.overlap with
    | o :: _ => if ((t.routeStep q s .a).map (·.onto)) = some o then some (.a, []) else some (.b, [])
    | [] => if (t.tracks.get? s).any fun r => r.endA == .buffer then some (.a, []) else some (.b, [])
  | p => t.walkEither q p

/-! ## ROUTE pass (R15, R16) -/

/-- The entry signal suits the class (R15 test 2). -/
def classSuits (q : RouteRec) (r : SignalRec) : Bool :=
  match q.cls with
  | .main => r.kind != .shunt
  | .shunt => r.kind == .shunt
  | .callOn => r.callOnHead

/-- The end is among those a road admits. -/
def endAdmitted (e : DeckEnd) : EndsAllowed → Bool
  | .both => true
  | .end1 => e == .end1
  | .end2 => e == .end2

def routeReferences (t : Tables) (q : RouteRec) : Option CheckCode :=
  let line := q.path ++ q.overlap
  let inPath := t.deckIndex.any q.path.contains
  demand (t.signals.has q.entry && (q.exit == 0 || t.signals.has q.exit) && q.exit != q.entry) .routeSignalAbsent
  <|> demand ((t.signals.get? q.entry).any (classSuits q)) .routeClassSignal
  <|> demand (q.cls == .main || decide (2 ≤ q.path.length)) .routePathShort
  <|> demand (line.all t.tracks.has && q.approach.all t.tracks.has && distinctNumbers line
        && distinctNumbers q.approach && !q.approach.any line.contains) .routeSectionBad
  <|> demand (q.reqs.all fun r => t.points.has r.point) .routePointAbsent
  <|> demand (distinctNumbers (q.reqs.map (·.point))) .routePointTwice
  <|> demand (q.deck.isSome == inPath && !t.deckIndex.any q.overlap.contains
        && (match q.deck with
            | some (r, e) => (t.roads.get? r).any fun road => endAdmitted e road.endsAllowed
            | none => true)) .routeDeckField
  <|> demand (q.exit != 0 || q.overlap.isEmpty) .routeBufferExit

/-- The roles match the walk (R16 test 4). -/
def rolesMatch (q : RouteRec) (path overlap : List Nat) : Bool :=
  (q.reqs.all fun r => match r.role with
    | .path => path.contains r.point
    | .overlap => overlap.contains r.point
    | .flank => !path.contains r.point && !overlap.contains r.point)
  && (path.all fun p => q.reqs.any fun r => r.point == p && r.role == .path)
  && (overlap.all fun p => q.reqs.any fun r => r.point == p && r.role == .overlap)

/-- The release indexes match (R16 test 5). -/
def releasesMatch (q : RouteRec) (crossed : List (Nat × Nat)) : Bool :=
  q.reqs.all fun r => match r.role with
    | .path => (crossed.find? fun c => c.1 == r.point).any fun c =>
        r.release == positionOf c.2 q.path && r.release != 0
    | .overlap => r.release == 0
    | .flank => decide (r.release ≤ q.path.length)

def routeWalkTest (t : Tables) (q : RouteRec) : Option CheckCode :=
  match t.pathWalk q, q.path.getLast? with
  | some (x, crossed), some last =>
    let onward := t.walkOn q last x q.overlap
    demand (q.exit != 0 || (t.tracks.get? last).any fun r => r.link x == .buffer) .routeBufferExit
    <|> (match onward with
      | none => some .routeOverlapNotAWalk
      | some (_, beyond) =>
        demand (rolesMatch q (crossed.map (·.1)) (beyond.map (·.1))) .routePointRole
        <|> demand (releasesMatch q crossed) .routeReleaseIndex)
  | _, _ => some .routeNotAWalk

def routeTest (t : Tables) (dmg : List (Nat × Nat)) (i : Nat) (q : RouteRec) : Option CheckCode :=
  sound dmg 6 i q.inRange <|> t.routeReferences q <|> t.routeWalkTest q

def routePass (t : Tables) (dmg : List (Nat × Nat)) : Option CheckResult :=
  t.routes.findSome? fun e => atRecord 6 e.1 (t.routeTest dmg e.1 e.2)

/-! ## DISTRICT, SCRIPT and BERTH passes (R10, R17) -/

def districtPass (t : Tables) (dmg : List (Nat × Nat)) : Option CheckResult :=
  ((List.range 8).map (· + 1)).findSome? fun d =>
    atRecord 7 d (sound dmg 7 d (t.districts.getD d {}).inRange)

/-- The end asked for is admitted by a road; ANY is admitted by every road (R17). -/
def askedAdmitted (e : DeckEndAsked) (a : EndsAllowed) : Bool :=
  match e with
  | .either => true
  | .end1 => endAdmitted .end1 a
  | .end2 => endAdmitted .end2 a

def stepRefs (t : Tables) : ScriptStep → Bool
  | .setRoute q | .cancelRoute q => t.routes.has q
  | .waitArrival s _ | .waitClear s _ => t.tracks.has s
  | .turnTable r e => t.turntable.isSome && (t.roads.get? r).any fun road => askedAdmitted e road.endsAllowed
  | .display _ _ | .pause _ => true

/-- Each CANCEL_ROUTE step names a route that an earlier SET_ROUTE step names. -/
def cancelsFollowSets : List Nat → List ScriptStep → Bool
  | _, [] => true
  | set, .setRoute q :: rest => cancelsFollowSets (q :: set) rest
  | set, .cancelRoute q :: rest => set.contains q && cancelsFollowSets set rest
  | set, _ :: rest => cancelsFollowSets set rest

def scriptTest (t : Tables) (dmg : List (Nat × Nat)) (k : Nat) (r : ScriptRec) : Option CheckCode :=
  sound dmg 10 k r.inRange
  <|> demand (!t.scripts.any fun e => decide (e.1 < k) && e.2.button == r.button) .scriptButtonTwice
  <|> demand (r.steps.all t.stepRefs) .scriptRefBad
  <|> demand (cancelsFollowSets [] r.steps) .scriptCancelNotSet

def scriptPass (t : Tables) (dmg : List (Nat × Nat)) : Option CheckResult :=
  t.scripts.findSome? fun e => atRecord 10 e.1 (t.scriptTest dmg e.1 e.2)

def berthTest (t : Tables) (dmg : List (Nat × Nat)) (b : Nat) (r : BerthRec) : Option CheckCode :=
  sound dmg 11 b r.inRange <|> demand (r.track == 0 || t.tracks.has r.track) .berthSectionAbsent

def berthPass (t : Tables) (dmg : List (Nat × Nat)) : Option CheckResult :=
  ((List.range 12).map (· + 1)).findSome? fun b => atRecord 11 b (t.berthTest dmg b (t.berths.getD b {}))

/-! ## The check (R9) -/

/-- Runs the check: PASS, or the first failure met. `dmg` names the records of a loaded image that hold a stored code
naming no value. -/
def check (t : Tables) (dmg : List (Nat × Nat) := []) : CheckResult :=
  (atRecord 1 1 (sound dmg 1 1 t.general.inRange)
    <|> t.nodePass dmg <|> t.trackPass dmg <|> t.pointPass dmg <|> t.signalPass dmg <|> t.tablePass dmg
    <|> t.routePass dmg <|> t.districtPass dmg <|> t.scriptPass dmg <|> t.berthPass dmg).getD {}

/-! ## Touched-district sets (R19) -/

def districtOfTrack (t : Tables) (s : Nat) : List Nat := ((t.tracks.get? s).map (·.district)).toList

def routeSet (t : Tables) (q : RouteRec) : List Nat :=
  unionNumbers (q.path.flatMap t.districtOfTrack ++ q.overlap.flatMap t.districtOfTrack
    ++ q.reqs.flatMap (fun r => ((t.points.get? r.point).map (·.district)).toList)
    ++ ((t.signals.get? q.entry).map (·.district)).toList
    ++ (if q.deck.isSome then t.deckIndex.toList.flatMap t.districtOfTrack else []))

def scriptSet (t : Tables) (r : ScriptRec) : List Nat :=
  unionNumbers (r.steps.flatMap fun st => match st with
    | .setRoute q => ((t.routes.get? q).map t.routeSet).getD []
    | .turnTable _ _ => t.deckIndex.toList.flatMap t.districtOfTrack
    | _ => [])

def routeSets (t : Tables) : Tab (List Nat) := t.routes.map fun e => (e.1, t.routeSet e.2)

def scriptSets (t : Tables) : Tab (List Nat) := t.scripts.map fun e => (e.1, t.scriptSet e.2)

end Tables

end Sys2Proof
end

