-- ==== Sys2Proof/Machine/Graph.lean ====
section
/-! DEFINITION. The live track graph (R7). -/

namespace Sys2Proof.Machine

/-- The track piece of the road a deck end faces now; `none` where it faces none. -/
def State.roadTrackFaced (s : State) (e : DeckEnd) : Option Nat :=
  (s.tables.roads.get? (s.ttc.face e)).map (·.track)

/-- TTC is ALIGNED (R130). -/
def State.isAligned (s : State) : Bool := s.ttc.state == .aligned

/-- The live neighbour beyond a link of the track piece `t` (R7). -/
def State.beyond (s : State) (t : Nat) (l : Link) : Option Nat :=
  match l with
  | .open | .buffer => none
  | .track u => some u
  | .point p n r =>
    match s.detected p with
    | .normal => some n
    | .reverse => some r
    | .moving | .contactFault | .unknown => none
  | .table 0 =>
    if s.isAligned && (s.roadTrackFaced .end1 == some t || s.roadTrackFaced .end2 == some t) then s.deckTrack else none
  | .table 1 => if s.isAligned then s.roadTrackFaced .end1 else none
  | .table _ => if s.isAligned then s.roadTrackFaced .end2 else none

/-- The live neighbour of `t` across its end `x` (R7). -/
def State.neighbour (s : State) (t : Nat) (x : TrackEnd) : Option Nat :=
  (s.trackRec t).bind fun r => s.beyond t (r.link x)

end Sys2Proof.Machine
end

