-- ==== Sys2Proof/Machine/Signals.lean ====
section
/-! DEFINITION. SAU: the commanded aspect (R90 to R93), the effective aspect and red_out (R94), the ripple in rear (R95)
and SIGNAL_ASPECT (R96). -/

namespace Sys2Proof.Machine

namespace State

/-- Every requirement point of a route is detected in its required lie (R91). -/
def reqsDetected (s : State) (q : RouteRec) : Bool :=
  q.reqs.all fun r => match r.lie, s.detected r.point with
    | .normal, .normal => true
    | .reverse, .reverse => true
    | _, _ => false

/-- The turntable carries the route's alignment, bolt included (R91). A route without a deck field needs none. -/
def deckReady (s : State) (q : RouteRec) : Bool :=
  match q.deck with
  | some (r, e) =>
    s.ttc.alignedAt r e && (s.boltIn || !(s.tables.turntable.any (·.boltPresent)))
  | none => true

/-- Every track piece of a list is CLEAR. -/
def allClear (s : State) (l : List Nat) : Bool := l.all fun t => s.occupancy t == .clear

/-- The conditions of R91 on signal `x` whose route is `q`. -/
def mayClear (s : State) (x : Nat) (q : Nat) (rt : RouteRec) : Bool :=
  let w := s.route q
  s.mode == .running && !s.lts.estop && w.state == .locked && s.reqsDetected rt && s.deckReady rt
    && !(s.signal x).reminder && !w.forced && !(w.fleet && w.passed)
    && (match s.signalRec x with
        | some r => (s.node r.headNode).state == .online || (s.node r.headNode).state == .missing
        | none => false)

/-- The aspect of a MAIN route by its exit (R92, the table). -/
def mainAspect (s : State) (kind : SignalKind) (exit : Nat) : Aspect :=
  let stopAhead : Aspect := if kind = .main2 then .clear else .caution
  if exit = 0 then stopAhead
  else if (s.signal exit).redOut then .danger
  else match (s.signal exit).effective with
    | .danger | .shunt | .callOn => stopAhead
    | .caution => if kind = .main4 then .prelimCaution else .clear
    | .prelimCaution | .clear => .clear

/-- The aspect of a route that passes R91, by its class (R92, R93). -/
def classAspect (s : State) (kind : SignalKind) (rt : RouteRec) : Aspect :=
  match rt.cls with
  | .main => if s.allClear rt.path && s.allClear rt.overlap then s.mainAspect kind rt.exit else .danger
  | .shunt => if s.allClear rt.path.dropLast then .shunt else .danger
  | .callOn =>
    if s.allClear rt.path.dropLast && rt.path.getLast?.any (fun t => s.occupancy t == .occupied) then .callOn
    else .danger

/-- The commanded aspect that R91 to R93 give signal `x`. -/
def aspectOf (s : State) (x : Nat) : Aspect :=
  let q := s.entryHolder x
  match s.routeRec q, s.signalRec x with
  | some rt, some r => if q != 0 && s.mayClear x q rt then s.classAspect r.kind rt else .danger
  | _, _ => .danger

/-- The signals whose route is LOCKED, of class MAIN and exits at `x`, rising (R95). -/
def rearSignals (s : State) (x : Nat) : List Nat :=
  s.tables.signals.keys.filter fun y =>
    let q := s.entryHolder y
    q != 0 && (s.route q).state == .locked &&
      (s.routeRec q).any fun rt => rt.cls == .main && rt.exit == x

end State

/-- The effective aspect and red_out that a proving value gives (R94). -/
def SignalWork.proved (w : SignalWork) : Proving → SignalWork
  | .proven => { w with effective := w.commanded, redOut := false }
  | .notProven => { w with effective := .danger, redOut := true }
  | .awaited => { w with effective := .danger }
  | .unknown => { w with effective := .danger, redOut := true }

/-- The record of a change (R96): class ALARMS when red_out goes from NO to YES. -/
def aspectRecord (x : Nat) (old new : SignalWork) : EventRec :=
  eventOf .signalAspect (if !old.redOut && new.redOut then .alarms else .signals) x
    (aspectCode new.commanded) (aspectCode new.effective) (yesNoCode new.redOut)

/-- The proving value after a change of the commanded aspect: AWAITED unless UNKNOWN (R35, R94). -/
def Proving.afterAspect (p : Proving) (changed : Bool) : Proving :=
  if changed && p != .unknown then .awaited else p

/-- The signal's route is told that its signal cleared (R99). -/
def markCleared (x : Nat) (s : State) : State :=
  let q := s.entryHolder x
  if q != 0 && (s.route q).state == .locked then s.setRoute q { s.route q with clearedOnce := true } else s

/-- Derives one signal afresh, with the proving value it has now. -/
def deriveOne (quiet : Bool) (x : Nat) (s : State) : State :=
  let old := s.signal x
  let asp := s.aspectOf x
  let changed := asp != old.commanded
  let pr := (s.proving x).afterAspect changed
  let new := ({ old with commanded := asp } : SignalWork).proved pr
  let s := if changed then s.setProving x pr else s
  let s := if new = old then s else s.setSignal x new
  let s := if changed && old.commanded == .danger then markCleared x s else s
  if new = old || quiet then s else raise (aspectRecord x old new) s

/-- Derives signal `x` and, when its effective aspect or red_out changes, the signals in rear of it (R95). -/
def deriveSignal (quiet : Bool) : Nat → Nat → State → State
  | 0, _, s => s
  | fuel + 1, x, s =>
    let old := s.signal x
    let s := deriveOne quiet x s
    let new := s.signal x
    if new.effective = old.effective ∧ new.redOut = old.redOut then s
    else (s.rearSignals x).foldl (fun s y => deriveSignal quiet fuel y s) s

/-- A ripple changes each of 64 signals at most once (R95). -/
def rippleDepth : Nat := 66

/-- The signal at which the LOCKED MAIN route from signal `x` exits. -/
def State.signalAhead (s : State) (x : Nat) : Option Nat :=
  let q := s.entryHolder x
  if q = 0 ∨ (s.route q).state ≠ .locked then none
  else ((s.routeRec q).filter fun rt => rt.cls == .main && rt.exit != 0).map (·.exit)

/-- Signal `x` behind the signals ahead of it, the farthest first. -/
def State.chainTo (s : State) : Nat → Nat → List Nat
  | 0, x => [x]
  | fuel + 1, x =>
    match s.signalAhead x with
    | some y => s.chainTo fuel y ++ [x]
    | none => [x]

/-- The order in which signals that one event reaches together are derived: rising, but a signal after those ahead of it,
so that it changes once and its record follows theirs (R95, R96, log 17). -/
def State.derivingOrder (s : State) (l : List Nat) : List Nat := withoutRepeats (l.flatMap (s.chainTo rippleDepth))

/-- Derives every signal of a list. -/
def deriveList (quiet : Bool) (l : List Nat) (s : State) : State :=
  (s.derivingOrder l).foldl (fun s x => deriveSignal quiet rippleDepth x s) s

/-- Every present signal is derived afresh (R90). -/
def deriveAll (quiet : Bool) (s : State) : State := deriveList quiet s.tables.signals.keys s

/-- FLC hands SAU a proving value (R35, R94). -/
def takeProving (x : Nat) (p : Proving) (s : State) : State :=
  deriveSignal false rippleDepth x (s.setProving x p)

end Sys2Proof.Machine
end

