-- ==== Sys2Proof/Machine/Turntable.lean ====
section
/-! DEFINITION. TTC (spec chapter 8): the transitions of the turntable record, as functions of the record alone, and
`commitTtc`, which hands a change of the record to the neighbours (R131, R138). A transition leaves the move record of
an ended move in place; `commitTtc` tells its end and removes it. -/

namespace Sys2Proof.Machine

namespace Ttc

/-- Steps stop and every timer stops; the homing in progress, if any, is over. -/
def still (t : Ttc) : Ttc :=
  { t with homePhase := none, homeStep := 0, stepAt := none, boltAt := none, settleAt := none }

/-- Enters a state in which the deck is not ALIGNED: the faces are 0 (R130). -/
def enter (t : Ttc) (st : TtcState) : Ttc := { t with state := st, face1 := 0, face2 := 0 }

/-- Entry to FAULT (R142). -/
def fail (t : Ttc) (c : TableFaultCause) (value : Int) : Ttc :=
  { t.still.enter .fault with homed := false, lastFault := some (c, value) }

/-- bolt_in of a turntable with a bolt (R128). -/
def proven (t : Ttc) (r : TurntableRec) : Bool := r.boltPresent && t.boltLevel

/-- The alignment rule (R130). -/
def align (t : Ttc) (tab : Tables) (r : TurntableRec) : Ttc :=
  let f1 := tab.faced t.p .end1
  let f2 := tab.faced t.p .end2
  if (f1 != 0 || f2 != 0) && (!r.boltPresent || t.boltLevel) then
    { t.still with state := .aligned, face1 := f1, face2 := f2 }
  else t.still.enter .stopped

/-- The time the bolt is allowed (1.9). -/
def boltTime (r : TurntableRec) : Nat := tenths (r.boltLimit.getD 0)

/-- Entry to BOLTING (R137). -/
def enterBolting (t : Ttc) (tab : Tables) (r : TurntableRec) (now : Nat) : Ttc :=
  let t := { t.still.enter .bolting with boltEngage := true }
  if t.proven r then t.align tab r else { t with boltAt := some (now + boltTime r) }

/-- The end of SETTLING (R137). -/
def afterSettling (t : Ttc) (tab : Tables) (r : TurntableRec) (now : Nat) : Ttc :=
  if r.boltPresent then t.enterBolting tab r now else t.align tab r

/-- Entry to SETTLING (R137). -/
def enterSettling (t : Ttc) (tab : Tables) (r : TurntableRec) (now : Nat) : Ttc :=
  let t := t.still.enter .settling
  if r.settleMs = 0 then t.afterSettling tab r now else { t with settleAt := some (now + ms r.settleMs) }

/-- The signed length of the move's current leg. -/
def currentLeg (m : Move) : Int := (m.legs[m.leg - 1]?).getD 0

/-- The direction of a leg (R148). -/
def legTurn (l : Int) : Turn := if l < 0 then .ccw else .cw

/-- Issues the next step of the current leg (R150) and, after a leg's last step, goes on as R137 and R139 state. -/
def issueStep (t : Ttc) (tab : Tables) (r : TurntableRec) (now : Nat) : Ttc :=
  match t.move with
  | none => t
  | some m =>
    let leg := currentLeg m
    let len := leg.natAbs
    let rate := r.rateOf len m.stepIndex
    let d := legTurn leg
    let pa := stepped r.turn t.p t.a d
    let m := { m with stepIndex := m.stepIndex + 1, lastRate := some rate }
    let t := { t with p := pa.1, a := pa.2, dir := d, pulses := t.pulses + 1, move := some m,
                      stepAt := some (now + stepInterval rate) }
    if m.stepIndex < len then t
    else if m.stopPending then t.still.enter .stopped
    else if m.leg < m.legs.length then { t with move := some { m with leg := m.leg + 1, stepIndex := 0 } }
    else t.enterSettling tab r now

/-- Entry to MOVING: the first step is issued in the same event (R150). -/
def enterMoving (t : Ttc) (tab : Tables) (r : TurntableRec) (now : Nat) : Ttc :=
  (t.still.enter .moving).issueStep tab r now

/-- The bolt has to be withdrawn before the deck turns (R133, R137). -/
def needsUnbolting (t : Ttc) (r : TurntableRec) : Bool := r.boltPresent && (t.boltLevel || t.boltEngage)

/-- An accepted move begins (R137). -/
def startMove (t : Ttc) (tab : Tables) (r : TurntableRec) (now : Nat) (m : Move) : Ttc :=
  let t := { t with move := some m }
  if m.legs.isEmpty then t.enterSettling tab r now
  else if t.needsUnbolting r then
    let t := { t.still.enter .unbolting with boltEngage := false }
    if t.boltLevel then { t with boltAt := some (now + boltTime r) } else t.enterMoving tab r now
  else t.enterMoving tab r now

/-- A search begins: its first step is one interval away (R134). -/
def startSearch (t : Ttc) (r : TurntableRec) (now : Nat) : Ttc :=
  { t.still with state := .homing, homePhase := some .search, dir := .cw,
                 stepAt := some (now + stepInterval r.startRate) }

/-- A homing starts (R133). -/
def startHoming (t : Ttc) (r : TurntableRec) (now : Nat) : Ttc :=
  let t := { t.still.enter .homing with homed := false, attempts := 0 }
  if t.needsUnbolting r then
    let t := { t with boltEngage := false }
    if t.boltLevel then { t with homePhase := some .withdraw, boltAt := some (now + boltTime r) }
    else t.startSearch r now
  else t.startSearch r now

/-- Steps of a search and of a back-off (R134). -/
def searchSteps (r : TurntableRec) : Nat := r.turn + r.turn / 4
def backoffSteps (r : TurntableRec) : Nat := r.turn / 8

/-- One step of a homing (R134). -/
def homingStep (t : Ttc) (r : TurntableRec) (now : Nat) : Ttc :=
  let t := { t with pulses := t.pulses + 1, homeStep := t.homeStep + 1,
                    stepAt := some (now + stepInterval r.startRate) }
  match t.homePhase with
  | some .search =>
    if t.homeStep < searchSteps r then t
    else
      let t := { t with attempts := t.attempts + 1 }
      if r.homeAttempts ≤ t.attempts then t.fail .homeFailed t.attempts
      else { t with homePhase := some .backoff, homeStep := 0, dir := .ccw }
  | some .backoff => if t.homeStep < backoffSteps r then t else t.startSearch r now
  | _ => t

/-- The index found in a search (R134). -/
def atIndex (t : Ttc) (r : TurntableRec) : Ttc :=
  { t.still.enter .stopped with
      p := r.indexOffset, a := wrapHalf r.turn r.indexOffset, homed := true, attempts := 0 }

/-- What follows a correction that leaves the leg no steps (R153). A replan replaces the legs, be there none (R141). -/
def legRunOut (t : Ttc) (tab : Tables) (r : TurntableRec) (now : Nat) (m : Move) : Ttc :=
  if m.stopPending then t.still.enter .stopped
  else if m.replanUsed then t.fail .replan 0
  else
    let goal := r.target (((tab.roads.get? m.road).map tab.roadPos).getD 0) m.deckEnd
    match r.planTo t.p t.a goal with
    | none => t.still.enter .stopped
    | some legs =>
      let t := { t with move := some { m with replanUsed := true, legs, leg := 1, stepIndex := 0 } }
      if legs.isEmpty then t.enterSettling tab r now else t

/-- A after a correction. It is held in its range like A after a step: beyond it A becomes p (R150, R152, log 12). -/
def correctedA (a slip : Int) (p : Nat) : Int :=
  if -2147483648 ≤ a - slip ∧ a - slip ≤ 2147483647 then a - slip else p

/-- An index edge in MOVING during a CW leg (R141, R152, R153). -/
def indexInLeg (t : Ttc) (tab : Tables) (r : TurntableRec) (now : Nat) (m : Move) : Ttc :=
  let slip := wrapHalf r.turn ((t.p : Int) - r.indexOffset)
  if (r.slipTolerance : Int) < slip.natAbs then t.fail .indexSlip slip
  else
    let t := { t with p := r.indexOffset, a := correctedA t.a slip r.indexOffset }
    let remaining := currentLeg m - m.stepIndex + slip
    if 1 ≤ remaining then
      { t with move := some { m with legs := m.legs.set (m.leg - 1) (m.stepIndex + remaining) } }
    else t.legRunOut tab r now m

/-- An index edge (R127): acted on in a search, and in MOVING during a CW leg. A leg begins when the one before it has
issued its last step: an edge after the last step of a CCW leg and before the first CW step, with DIR still CCW, is judged as
on the CW leg, though R127 and R152 do not say that TTC issues its steps by then (log 12). -/
def indexEdge (t : Ttc) (tab : Tables) (r : TurntableRec) (now : Nat) : Ttc :=
  match t.state, t.move with
  | .homing, _ => if t.homePhase = some .search then t.atIndex r else t
  | .moving, some m => if 0 < currentLeg m then t.indexInLeg tab r now m else t
  | _, _ => t

/-- A change of bolt_in, by state (R128). -/
def boltChange (t : Ttc) (tab : Tables) (r : TurntableRec) (now : Nat) (engaged : Bool) : Ttc :=
  let t := { t with boltLevel := engaged }
  match t.state, engaged with
  | .unbolting, false => t.enterMoving tab r now
  | .homing, false => if t.homePhase = some .withdraw then t.startSearch r now else t
  | .bolting, true => t.align tab r
  | .aligned, false => t.fail .boltLost 0
  | _, _ => t

/-- The bolt timer expires (R134, R137). -/
def boltExpired (t : Ttc) : Ttc :=
  match t.state with
  | .unbolting | .bolting => t.fail .bolt 0
  | .homing => if t.homePhase = some .withdraw then t.fail .bolt 0 else t
  | _ => t

/-- TABLE_STOP, by state (R139). -/
def stop (t : Ttc) (tab : Tables) (r : TurntableRec) (now : Nat) : Ttc :=
  match t.state with
  | .moving =>
    match t.move with
    | some m =>
      if m.stopPending then t
      else
        let leg := currentLeg m
        let len : Int := stoppedLength leg.natAbs m.stepIndex
        { t with move := some { m with
            legs := m.legs.set (m.leg - 1) (if leg < 0 then -len else len), stopPending := true } }
    | none => t
  | .homing => t.still.enter .unhomed
  | .unbolting =>
    let t := { t.still.enter .bolting with boltEngage := true }
    if t.proven r then t.align tab r else { t with boltAt := some (now + boltTime r) }
  | _ => t

/-- The last step of the move was above start_rate (R140). -/
def fastStep (t : Ttc) (r : TurntableRec) : Bool :=
  match t.move with
  | some m => m.lastRate.any fun v => decide (r.startRate < v)
  | none => false

/-- TABLE_HALT, by state (R140). -/
def halt (t : Ttc) (r : TurntableRec) : Ttc :=
  match t.state with
  | .moving => if t.fastStep r then { t.still.enter .unhomed with homed := false } else t.still.enter .stopped
  | .homing => t.still.enter .unhomed
  | .unbolting | .settling | .bolting => t.still.enter .stopped
  | .unhomed | .stopped | .aligned | .fault => t

/-- How a context is told that its move ended (R138). -/
def moveEnd (t : Ttc) (m : Move) : MoveEnd :=
  match t.state with
  | .aligned => if t.face m.deckEnd = m.road then .aligned else .ended .stopped
  | st => .ended st

end Ttc

/-- TABLE_STATE (R131). -/
def tableRecord (old new : Ttc) : EventRec :=
  eventOf .tableState .table 1 new.state.code old.state.code new.p

/-- A signed value as the 16 bits of an event value. -/
def signed16 (v : Int) : Nat := (BitVec.ofInt 16 v).toNat

/-- TABLE_FAULT (R142). Its subject is 1, as that of TABLE_STATE (log 12). -/
def tableFaultRecord (t : Ttc) : EventRec :=
  match t.lastFault with
  | some (c, v) => eventOf .tableFault .alarms 1 c.code (signed16 v) t.p
  | none => eventOf .tableFault .alarms 1 0 0 t.p

/-- RIE re-scans on an entry to ALIGNED, STOPPED or UNHOMED (R131). -/
def TtcState.freesTable : TtcState → Bool
  | .aligned | .stopped | .unhomed => true
  | _ => false

/-- Tells a move's end to its context and removes its record (R137, R138). -/
def endMove (s : State) : State :=
  match s.ttc.move with
  | some m =>
    if s.ttc.state.isMoving then s
    else
      let s := s.setTtc { s.ttc with move := none }
      if m.context = 0 then s else s.post (.moveReport m.context (s.ttc.moveEnd m))
  | none => s

/-- The record becomes `new`. Where its state has changed, the change is handed to the neighbours: TABLE_STATE, the
signals, VPC, the re-scan and TABLE_FAULT (R131, R142; log 9 orders the last three and the signals' own records). That
TABLE_FAULT stands before the ROUTE_STATE of a context that is told the move's end is the model's choice (R138, log 9). -/
def handTtc (changed : Bool) (new : Ttc) (s : State) : State :=
  let old := s.ttc
  let s := s.setTtc new
  if changed then
    let s := deriveAll false (raise (tableRecord old new) s)
    let s := s.post .tableChange
    let s := if new.state.freesTable then s.triggerRescan else s
    let s := if new.state = .fault then raise (tableFaultRecord new) s else s
    endMove s
  else endMove (deriveAll false s)

/-- A transition of the record: its state has changed where it differs. -/
def commitTtc (new : Ttc) (s : State) : State := handTtc (new.state != s.ttc.state) new s

/-- A move begins. It always leaves the state in which it was ordered, and is a change of state even where the event
comes back to that state: ALIGNED at one road, ALIGNED at the next (R131, R137, log 12). -/
def commitMove (new : Ttc) (s : State) : State := handTtc true new s

/-- Applies a transition of the record, when the layout has a turntable. -/
def actTtc (f : Ttc → Tables → TurntableRec → Nat → Ttc) (s : State) : State :=
  match s.tables.turntable with
  | some r => commitTtc (f s.ttc s.tables r s.now) s
  | none => s

/-! ## Requests (R132 to R136) -/

/-- TD's deck answer: the position of the train on the deck and its number of footprint entries (R122). -/
def State.deckAnswer (s : State) : Option (Nat × Nat) :=
  s.deckTrack.bind fun d =>
    (s.td.trains.find fun _ w => w.footprint.any fun e => e.1 == d).bind fun n =>
      (s.td.trains.get? n).map fun w => (n, w.footprint.length)

def State.deckOccupancy (s : State) : Occupancy :=
  match s.deckTrack with
  | some d => s.occupancy d
  | none => .unknown

/-- A live neighbour of the deck is not CLEAR (R136). -/
def State.deckNeighbourBusy (s : State) : Bool :=
  [DeckEnd.end1, DeckEnd.end2].any fun e =>
    s.isAligned && (s.roadTrackFaced e).any fun t => s.occupancy t != .clear

/-- The overhang test fails (R136). -/
def State.overhangs (s : State) : Bool :=
  s.deckOccupancy == .occupied &&
    (match s.deckAnswer with
     | some (_, n) => decide (1 < n)
     | none => s.deckNeighbourBusy)

/-- The district of the DECK track piece. -/
def State.deckDistrict (s : State) : Nat :=
  ((s.deckTrack.bind s.trackRec).map (·.district)).getD 0

/-- The common steps of R132 for a request from an origin. -/
def State.tableGate (s : State) (o : Origin) (starts fieldsGood : Bool) : Option ResultCode :=
  if s.tables.turntable.isNone then some .notFound
  else if !s.railActive || (s.mode == .stopping && starts) then some .wrongMode
  else if !o.mayRequest || !fieldsGood then some .badValue
  else (s.districtCheck o s.deckDistrict).refusal

/-- The end asked for faces the road already (R135 case 6). -/
def State.facesAlready (s : State) (road : Nat) (allowed : EndsAllowed) (asked : DeckEndAsked) : Bool :=
  s.isAligned && (match asked with
    | .end1 => s.ttc.face1 == road
    | .end2 => s.ttc.face2 == road
    | .either => (s.ttc.face1 == road && Tables.endAdmitted .end1 allowed)
        || (s.ttc.face2 == road && Tables.endAdmitted .end2 allowed))

/-- How a move is judged (R135). -/
inductive MoveJudged where
  | refused (c : ResultCode)
  | already
  | accepted (e : DeckEnd) (legs : List Int)
  deriving DecidableEq, Repr

/-- Judges a move ordered on behalf of route `forRoute`, 0 for an origin (R135). -/
def State.judgeMove (s : State) (r : TurntableRec) (forRoute road : Nat) (asked : DeckEndAsked) : MoveJudged :=
  let t := s.ttc
  if t.deckOwner ≠ 0 ∧ t.deckOwner ≠ forRoute then .refused .tableOwned
  else if t.state = .unhomed then .refused .notHomed
  else if t.state = .fault then .refused .tableFault
  else if t.state.isMoving then .refused .busy
  else match s.tables.roads.get? road with
  | none => .refused .badValue
  | some rd =>
    if !Tables.askedAdmitted asked rd.endsAllowed then .refused .badValue
    else if s.facesAlready road rd.endsAllowed asked then .already
    else if s.deckOccupancy = .unknown then .refused .deckUnknown
    else if s.overhangs then .refused .overhang
    else
      let pos := s.tables.roadPos rd
      let e := r.chooseEnd t.p pos rd.endsAllowed asked
      match r.planTo t.p t.a (r.target pos e) with
      | none => .refused .windingLimit
      | some legs => .accepted e legs

/-- Orders a move (R135, R137): the state and the reply. -/
def orderMove (forRoute : Nat) (o : Origin) (ctx road : Nat) (asked : DeckEndAsked) (s : State) : State × ResultCode :=
  match s.tables.turntable with
  | none => (s, .notFound)
  | some r =>
    match s.judgeMove r forRoute road asked with
    | .refused c => (s, c)
    | .already => (s, .ok)
    | .accepted e legs =>
      let m : Move := { road, deckEnd := e, origin := o, context := ctx, legs }
      (commitMove (s.ttc.startMove s.tables r s.now m) s, .accepted)

/-- The host's or the visitor's TABLE_MOVE (R132, R135). `road` and `asked` are `none` outside their ranges. -/
def requestMove (o : Origin) (road : Nat) (asked : Option DeckEndAsked) (s : State) : State × ResultCode :=
  match s.tableGate o true (decide (1 ≤ road ∧ road ≤ 24) && asked.isSome), asked with
  | some c, _ => (s, c)
  | none, some e => orderMove 0 o 0 road e s
  | none, none => (s, .badValue)

/-- TABLE_HOME (R132, R133). -/
def requestHome (o : Origin) (s : State) : State × ResultCode :=
  match s.tableGate o true true with
  | some c => (s, c)
  | none =>
    if s.ttc.state.isMoving then (s, .busy)
    else if s.ttc.deckOwner ≠ 0 then (s, .tableOwned)
    else if s.deckOccupancy = .unknown then (s, .deckUnknown)
    else if s.overhangs then (s, .overhang)
    else (actTtc (fun t _ r now => t.startHoming r now) s, .accepted)

/-- TABLE_STOP (R132, R139). -/
def requestStop (o : Origin) (s : State) : State × ResultCode :=
  match s.tableGate o false true with
  | some c => (s, c)
  | none => (actTtc Ttc.stop s, .ok)

/-- TABLE_HALT (R132, R140). -/
def requestHalt (o : Origin) (s : State) : State × ResultCode :=
  match s.tableGate o false true with
  | some c => (s, c)
  | none => (actTtc (fun t _ r _ => t.halt r) s, .ok)

/-- The effect of TABLE_HALT on entry to HALTED and at a warm restart (R140, R144). -/
def haltTable (s : State) : State := actTtc (fun t _ r _ => t.halt r) s

/-- RIE sets or clears the deck owner (R129). -/
def setDeckOwner (q : Nat) (s : State) : State :=
  let s := s.setTtc { s.ttc with deckOwner := q }
  if q = 0 then s.triggerRescan else s

/-- The level on DRV_EN (R127). -/
def State.drvEn (s : State) : Bool :=
  s.tables.turntable.isSome && s.loopRuns && s.ttc.state != .fault

/-- The level on BOLT_OUT (R127, R128). -/
def State.boltOut (s : State) : Bool :=
  (s.tables.turntable.any (·.boltPresent)) && s.ttc.boltEngage

/-- The record at loop stop: the cold-start values, with bolt_in from the pin (R126). -/
def coldTtc (t : Ttc) : Ttc := { boltLevel := t.boltLevel, pulses := t.pulses }

end Sys2Proof.Machine
end

