-- ==== Sys2Proof/Machine/Routes.lean ====
section
/-! DEFINITION. RIE: the locks (R67, R68), the conflict examination (R70), setting contexts and restoring (R75 to R83). -/

namespace Sys2Proof.Machine

/-! ## Reading -/

/-- The route's path position of a track piece; 0 where it is not in the path. -/
def State.pathPosition (s : State) (q t : Nat) : Nat :=
  match s.routeRec q with
  | some r => positionOf t r.path
  | none => 0

/-- A route with a deck field across track piece `t` gives back the deck with it. -/
def State.isDeck (s : State) (t : Nat) : Bool := s.deckTrack == some t

/-- The lowest-numbered free setting context (R75). -/
def State.freeContext (s : State) : Option Nat :=
  [1, 2, 3, 4].find? fun n => (s.context n).phase == .free

/-! ## A change of route state (R66) -/

/-- ROUTE_STATE (R66). -/
def routeRecord (q : Nat) (new old : RouteState) (c : RouteCause) : EventRec :=
  eventOf .routeState .routes q new.code old.code c.code

/-- The record of a route in FREE, with the cause that made it FREE (R66). -/
def freedRoute (c : RouteCause) : RouteWork := { cause := c }

/-- The route takes the record `w`, whose state is a change: ROUTE_STATE, then SAU, then VPC (R66). -/
def changeRoute (q : Nat) (w : RouteWork) (c : RouteCause) (s : State) : State :=
  let s := raise (routeRecord q w.state (s.route q).state c) s
  let s := deriveAll false (s.setRoute q { w with cause := c })
  let s := s.post (.routeChange q w.state c)
  if w.state = .free then s.triggerRescan else s

/-! ## Giving back (R68) -/

/-- Takes a route off a point's holders list. -/
def dropHolder (q p : Nat) (s : State) : State :=
  s.setHolders p ((s.holders p).filter fun h => h.1 != q)

/-- Takes a route off every point whose requirement has this release index. -/
def dropHolders (q release : Nat) (s : State) : State :=
  match s.routeRec q with
  | some r => (r.reqs.filter fun x => x.release == release).foldl (fun s x => dropHolder q x.point s) s
  | none => s

/-- Clears the deck owner where it names the route (R68). -/
def freeDeck (q : Nat) (s : State) : State :=
  if s.ttc.deckOwner = q ∧ q ≠ 0 then setDeckOwner 0 s else s

/-- Gives back the track piece at path position `k` with its requirements (R68). -/
def giveBackPath (q k : Nat) (s : State) : State :=
  match s.routeRec q with
  | some r =>
    match r.path[k - 1]? with
    | some t =>
      let s := s.setLock t {}
      let s := s.setRoute q { s.route q with released := addNumber k (s.route q).released }
      let s := dropHolders q k s
      let s := if s.isDeck t then freeDeck q s else s
      s.triggerRescan
    | none => s
  | none => s

/-- Gives back one overlap track piece alone (R85, R86). -/
def giveBackOne (q t : Nat) (s : State) : State :=
  if (s.lock t).holder = q then (s.setLock t {}).triggerRescan else s

/-- Gives back the overlap with the requirements of release index 0 (R68). -/
def giveBackOverlap (q : Nat) (s : State) : State :=
  match s.routeRec q with
  | some r =>
    let s := r.overlap.foldl (fun s t => giveBackOne q t s) s
    let s := dropHolders q 0 s
    (s.setRoute q { s.route q with overlapReleased := true, overlapTimer := none }).triggerRescan
  | none => s

/-- Path positions the route has not given back yet, rising. -/
def State.heldPositions (s : State) (q : Nat) : List Nat :=
  match s.routeRec q with
  | some r => ((List.range r.path.length).map (· + 1)).filter fun k => !(s.route q).released.contains k
  | none => []

/-- Overlap track pieces the route still holds. -/
def State.heldOverlap (s : State) (q : Nat) : List Nat :=
  match s.routeRec q with
  | some r => r.overlap.filter fun t => (s.lock t).holder == q
  | none => []

/-- Frees the entry signal and the deck and makes the route FREE (R68, the last unit). A FREE route holds nothing (R67),
so no point keeps it as a holder: in tables that the check has passed every requirement has been given back by then. -/
def endRoute (q : Nat) (c : RouteCause) (s : State) : State :=
  let s := match s.routeRec q with
    | some r =>
      let s := if s.entryHolder r.entry = q then s.setEntryHolder r.entry 0 else s
      r.reqs.foldl (fun s x => dropHolder q x.point s) s
    | none => s
  changeRoute q (freedRoute c) c (freeDeck q s)

/-- Gives the whole route back (R68). -/
def giveBackWhole (q : Nat) (c : RouteCause) (s : State) : State :=
  let s := (s.heldPositions q).foldl (fun s k => giveBackPath q k s) s
  let s := if (s.route q).overlapReleased then s else giveBackOverlap q s
  endRoute q c s

/-- A route that holds no path track piece and has given back its overlap is given back whole (R68). -/
def endIfEmpty (q : Nat) (c : RouteCause) (s : State) : State :=
  if (s.heldPositions q).isEmpty && (s.route q).overlapReleased then endRoute q c s else s

/-! ## The conflict examination (R70) -/

/-- The conflicts of route `q` for an origin, each with whether `q` has it, in the order of R70. -/
def State.conflicts (s : State) (q : Nat) (o : Origin) (r : RouteRec) : List (ConflictReason × Bool) :=
  [(.localRelease, s.routeCheck o q == .localRelease),
   (.tableOwned, r.deck.isSome && s.ttc.deckOwner != 0),
   (.sectionHeld, (r.path ++ r.overlap).any fun t => (s.lock t).holder != 0),
   (.pointOtherLie, r.reqs.any fun x => (s.holders x.point).any fun h => h.2 != x.lie),
   (.pointMoving, r.reqs.any fun x => (s.point x.point).order.any fun o => o.lie != x.lie),
   (.holdersFull, r.reqs.any fun x => decide (4 ≤ (s.holders x.point).length)),
   (.entryBusy, s.entryHolder r.entry != 0),
   (.tableNotReady, r.deck.isSome && (s.ttc.state == .unhomed || s.ttc.state == .fault)),
   (.tableBusy, r.deck.isSome && s.ttc.state.isMoving),
   (.contextsFull, s.freeContext.isNone)]

/-- The first conflict found (R70). -/
def State.conflict (s : State) (q : Nat) (o : Origin) : Option ConflictReason :=
  match s.routeRec q with
  | some r => ((s.conflicts q o r).find? (·.2)).map (·.1)
  | none => none

/-! ## Contexts -/

/-- A context becomes free (R78): a trigger for a re-scan. -/
def closeContext (n : Nat) (s : State) : State := (s.setContext n {}).triggerRescan

/-- Sets the journal entry at index `i`. -/
def setEntry (n i : Nat) (e : JournalEntry) (s : State) : State :=
  let c := s.context n
  s.setContext n { c with journal := c.journal.set i e }

def JournalEntry.isPoint (e : JournalEntry) (p : Nat) : Bool :=
  match e.target with
  | .point p' _ _ => p' == p
  | .table _ _ _ => false

def JournalEntry.isTable (e : JournalEntry) : Bool :=
  match e.target with
  | .point _ _ _ => false
  | .table _ _ _ => true

def Context.anyPending (c : Context) : Bool := c.journal.any fun e => e.outcome == .pending

/-- Every entry ended COMPLETE or ALIGNED (R79). -/
def Context.allGood (c : Context) : Bool :=
  c.journal.all fun e => e.outcome == .complete || e.outcome == .aligned

def Context.anyPlaced (c : Context) : Bool := c.journal.any fun e => e.restore == .placed

/-- Rewrites a route's lie in a point's holders list (R82). -/
def rewriteHolder (q p : Nat) (lie : Lie) (s : State) : State :=
  (s.setHolders p ((s.holders p).map fun h => if h.1 = q then (q, lie) else h)).triggerRescan

/-- The previous lie a POINT entry is put back to, where R82 lets it be placed. -/
def State.restorable (s : State) (q : Nat) (e : JournalEntry) : Option (Nat × Lie) :=
  match e.target with
  | .point p lie (some prev) =>
    if e.outcome = .complete ∧ prev ≠ lie ∧ (s.holders p).all (fun h => h.1 == q) then some (p, prev) else none
  | _ => none

/-- A deck end as a request names it. -/
def askedEnd : DeckEnd → DeckEndAsked
  | .end1 => .end1
  | .end2 => .end2

/-- Judges one journal entry in UNWINDING (R82). -/
def restoreEntry (n q i : Nat) (s : State) : State :=
  match (s.context n).journal[i]? with
  | none => s
  | some e =>
    match e.target, s.restorable q e with
    | .point _ _ _, some (p, prev) =>
      let (s, how) := placeOrder p prev .restore (some (.context n)) s
      match how with
      | .made | .merged => setEntry n i { e with restore := .placed } (rewriteHolder q p prev s)
      | .lost => setEntry n i { e with restore := .done } (rewriteHolder q p prev s)
      | .busy => setEntry n i { e with restore := .skipped } s
    | .point _ _ _, none => setEntry n i { e with restore := .skipped } s
    | .table _ _ (some (road, de)), _ =>
      if e.outcome = .aligned then
        let s := setEntry n i { e with restore := .placed } s
        let (s, code) := orderMove q .restore n road (askedEnd de) s
        match code with
        | .accepted => s
        | .ok => setEntry n i { e with restore := .done } s
        | _ => setEntry n i { e with restore := .skipped } s
      else setEntry n i { e with restore := .skipped } s
    | .table _ _ none, _ => setEntry n i { e with restore := .skipped } s

/-- The end of UNWINDING (R83): nothing is PLACED any more. -/
def finishUnwinding (n : Nat) (s : State) : State :=
  let c := s.context n
  if c.phase = .unwinding ∧ !c.anyPlaced then
    giveBackWhole c.route (c.failure.getD .none) (closeContext n s)
  else s

/-- Entry to UNWINDING (R82): the entries newest first. -/
def unwind (n : Nat) (s : State) : State :=
  let c := s.context n
  let s := s.setContext n { c with phase := .unwinding }
  let s := (List.range c.journal.length).reverse.foldl (fun s i => restoreEntry n c.route i s) s
  finishUnwinding n s

/-- The end of DRAINING (R81): no entry is PENDING any more. -/
def finishDraining (n : Nat) (s : State) : State :=
  let c := s.context n
  if c.phase = .draining ∧ !c.anyPending then unwind n s else s

/-- Withdraws the claim of one PENDING entry (R81). -/
def withdrawEntry (n i : Nat) (s : State) : State :=
  match (s.context n).journal[i]? with
  | some e =>
    match e.target, e.outcome with
    | .point p _ _, .pending =>
      let (s, told) := withdrawClaim p n s
      if told then setEntry n i { e with outcome := .withdrawn } s else s
    | _, _ => s
  | none => s

/-- The route of a context goes to RESTORING (R80, R81). -/
def beginRestoring (n : Nat) (failure : RouteCause) (s : State) : State :=
  let c := s.context n
  let q := c.route
  let s := s.setContext n { c with phase := .draining, failure := some failure }
  let s := changeRoute q { s.route q with state := .restoring } failure s
  let s := (List.range c.journal.length).foldl (fun s i => withdrawEntry n i s) s
  finishDraining n s

/-- The route of a context goes to LOCKED and the context becomes free (R79). -/
def completeSetting (n : Nat) (c : RouteCause) (s : State) : State :=
  let q := (s.context n).route
  changeRoute q { s.route q with state := .locked, context := 0 } c (closeContext n s)

/-- What a context does once an entry has its outcome. In HALTED a report moves no route (R88). -/
def afterReport (n : Nat) (failure : Option RouteCause) (s : State) : State :=
  if !s.railActive then s
  else match (s.context n).phase with
  | .free => s
  | .setting =>
    match failure with
    | some f => beginRestoring n f s
    | none => if (s.context n).allGood then completeSetting n .complete s else s
  | .draining => finishDraining n s
  | .unwinding => finishUnwinding n s

def throwCause : ThrowFailure → RouteCause
  | .noAck => .noAck
  | .timeout => .timeout
  | .nodeLost => .nodeLost

/-- An entry takes a report: its outcome while PENDING, or DONE once its restore is PLACED (R78, R83). -/
def JournalEntry.told (e : JournalEntry) (o : JournalOutcome) : JournalEntry :=
  if e.outcome = .pending then { e with outcome := o }
  else if e.restore = .placed then { e with restore := .done }
  else e

/-- A report reaches the entry of a context that `f` names (R78 to R83). -/
def reportTo (n : Nat) (f : JournalEntry → Bool) (o : JournalOutcome) (failure : Option RouteCause) (s : State) : State :=
  match (s.context n).journal.findIdx? f with
  | none => s
  | some i =>
    match (s.context n).journal[i]? with
    | none => s
    | some e => if e.told o = e then s else afterReport n failure (setEntry n i (e.told o) s)

/-- PTS tells a context how an order ended (3.5). -/
def reportThrow (n p : Nat) (r : ThrowReport) (s : State) : State :=
  match r with
  | .complete => reportTo n (·.isPoint p) .complete none s
  | .failed c => reportTo n (·.isPoint p) .failed (some (throwCause c)) s
  | .abandoned => reportTo n (·.isPoint p) .abandoned none s

/-- TTC tells a context how its move ended (R138). -/
def reportMove (n : Nat) (r : MoveEnd) (s : State) : State :=
  match r with
  | .aligned => reportTo n (·.isTable) .aligned none s
  | .ended .fault => reportTo n (·.isTable) .ended (some .tableFault) s
  | .ended _ => reportTo n (·.isTable) .ended (some .tableStopped) s

/-! ## Admission (R75 to R77) -/

/-- Puts a route on a point's holders list, on which no route appears twice (R40). -/
def addHolder (q p : Nat) (lie : Lie) (s : State) : State :=
  if (s.holders p).any (·.1 == q) then s else s.setHolders p (s.holders p ++ [(q, lie)])

/-- The locks of R75. The route keeps its state, FREE or HELD, until the admission's one ROUTE_STATE, which carries it as
the previous state (R77, log 11). -/
def takeLocks (q n : Nat) (r : RouteRec) (o : Origin) (fleet : Bool) (s : State) : State :=
  let s := (r.path ++ r.overlap).foldl (fun s t => s.setLock t { s.lock t with holder := q }) s
  let s := r.reqs.foldl (fun s x => addHolder q x.point x.lie s) s
  let s := s.setEntryHolder r.entry q
  let s := if r.deck.isSome then setDeckOwner q s else s
  let s := s.setContext n { route := q, phase := .setting }
  s.setRoute q { state := (s.route q).state, origin := some o, fleet, context := n, cause := (s.route q).cause }

/-- Appends an entry to a context's journal. -/
def journal (n : Nat) (e : JournalEntry) (s : State) : State :=
  let c := s.context n
  s.setContext n { c with journal := c.journal ++ [e] }

/-- The lie a point is detected in, if it is NORMAL or REVERSE. -/
def State.lieOf (s : State) (p : Nat) : Option Lie :=
  match s.detected p with
  | .normal => some .normal
  | .reverse => some .reverse
  | _ => none

/-- Orders the throw one requirement still needs (R76). The flag says that a placement has failed at once. -/
def orderThrow (n : Nat) (sf : State × Bool) (x : Requirement) : State × Bool :=
  let (s, failed) := sf
  if failed || s.liesAt x.point x.lie then (s, failed)
  else
    let target : JournalTarget := .point x.point x.lie (s.lieOf x.point)
    let (s, how) := placeOrder x.point x.lie .setting (some (.context n)) s
    match how with
    | .lost => (journal n { target, outcome := .failed } s, true)
    | _ => (journal n { target } s, false)

/-- The road and deck end at which TTC is ALIGNED, as it reports them (R130). -/
def State.alignment (s : State) : Option (Nat × DeckEnd) :=
  if s.ttc.state = .aligned then
    if s.ttc.face1 ≠ 0 then some (s.ttc.face1, .end1) else some (s.ttc.face2, .end2)
  else none

/-- Orders the turntable move the route still needs (R77): the state and the code of a refusal. -/
def orderDeck (q n : Nat) (r : RouteRec) (o : Origin) (s : State) : State × Option ResultCode :=
  match r.deck with
  | none => (s, none)
  | some (road, e) =>
    if s.ttc.alignedAt road e then (s, none)
    else
      let target : JournalTarget := .table road e s.alignment
      let (s, code) := orderMove q o n road (askedEnd e) s
      if code = .accepted then
        (journal n { target, outcome := if s.ttc.alignedAt road e then .aligned else .pending } s, none)
      else (journal n { target, outcome := .refused } s, some code)

/-- Admission of route `q` (R75 to R77). -/
def admitRoute (q : Nat) (o : Origin) (fleet : Bool) (s : State) : State :=
  match s.routeRec q, s.freeContext with
  | some r, some n =>
    let s := takeLocks q n r o fleet s
    let (s, failed) := r.reqs.foldl (orderThrow n) (s, false)
    if failed then beginRestoring n .nodeLost s
    else
      let (s, refused) := orderDeck q n r o s
      match refused with
      | some c => beginRestoring n (.tableRefusal c) s
      | none =>
        if (s.context n).allGood then completeSetting n .requested s
        else changeRoute q { s.route q with state := .setting } .requested s
  | _, _ => s

/-! ## The held-request queue (R72 to R74) -/

/-- Takes a route out of the held-request queue. -/
def leaveQueue (q : Nat) (s : State) : State := s.setHeldQueue (s.rie.heldQueue.filter (· != q))

/-- A HELD route leaves the queue and becomes FREE. -/
def dropHeld (q : Nat) (c : RouteCause) (s : State) : State := changeRoute q (freedRoute c) c (leaveQueue q s)

/-- Examines one entry of the queue (R73). -/
def rescanEntry (s : State) (q : Nat) : State :=
  let w := s.route q
  if w.state ≠ .held then s
  else
    let o := w.origin.getD .auto
    if s.routeCheck o q = .noAuthority then dropHeld q .noAuthority s
    else match s.conflict q o with
    | none => admitRoute q o w.fleet (leaveQueue q s)
    | some c => s.setRoute q { w with heldReason := some c }

/-- A re-scan, in RUNNING and STOPPING (R73). -/
def rescan (s : State) : State :=
  if s.railActive then s.rie.heldQueue.foldl rescanEntry s else s

/-! ## ROUTE_SET (R69 to R71) -/

/-- A reply with its reason byte (11.2). -/
structure RouteReply where
  code : ResultCode
  reason : Option ConflictReason := none
  deriving DecidableEq, Repr

/-- The hold limit in seconds (R69). -/
def State.holdLimit (s : State) (n : Nat) : Nat := if n = 0 then s.general.heldDefault else min n 600

/-- The refusals of R69. -/
def State.routeRefusal (s : State) (q : Nat) (o : Origin) (fleet : Bool) : Option ResultCode :=
  if s.mode ≠ .running then some .wrongMode
  else if !(decide (1 ≤ q ∧ q ≤ 192)) || !o.mayRequest then some .badValue
  else match s.routeRec q with
  | none => some .notFound
  | some r =>
    if fleet && r.cls != .main then some .badValue
    else if (s.route q).state ≠ .free then some .duplicate
    else if s.routeCheck o q = .noAuthority then some .noAuthority
    else none

/-- A request that waits (R71). -/
def holdRequest (q : Nat) (o : Origin) (fleet : Bool) (limit : Nat) (c : ConflictReason) (s : State) : State :=
  let w : RouteWork := { state := .held, origin := some o, fleet, heldReason := some c,
                         hold := .runs (s.now + seconds (s.holdLimit limit)) }
  changeRoute q w (.conflict c) (s.setHeldQueue (s.rie.heldQueue ++ [q]))

/-- ROUTE_SET (R69, R71). -/
def requestRoute (q : Nat) (o : Origin) (wait fleet : Bool) (limit : Nat) (s : State) : State × RouteReply :=
  match s.routeRefusal q o fleet with
  | some c => (s, { code := c })
  | none =>
    match s.conflict q o with
    | none =>
      let s := admitRoute q o fleet s
      (s, { code := if (s.route q).state = .locked then .ok else .accepted })
    | some c =>
      if !wait then (s, { code := .conflict, reason := some c })
      else if s.rie.heldQueue.length < 16 then (holdRequest q o fleet limit c s, { code := .queued, reason := some c })
      else (s, { code := .full })

end Sys2Proof.Machine
end

