-- ==== Sys2Proof/Machine/Release.lean ====
section
/-! DEFINITION. RIE: ROUTE_CANCEL, ROUTE_FORCE_RELEASE, the course of a train through a route (spec 5.8, 5.9 and chapter
6), the route timers, and RIE's part in mode changes (R88, R108). -/

namespace Sys2Proof.Machine

/-! ## Sequential release (R104, R105) -/

/-- The track piece at a path position. -/
def State.pathTrack (s : State) (q k : Nat) : Option Nat :=
  (s.routeRec q).bind fun r => if k = 0 then none else r.path[k - 1]?

def State.pathLength (s : State) (q : Nat) : Nat :=
  match s.routeRec q with
  | some r => r.path.length
  | none => 0

/-- Path positions whose track piece is OCCUPIED now. -/
def State.occupiedPositions (s : State) (q : Nat) : List Nat :=
  ((List.range (s.pathLength q)).map (· + 1)).filter fun k =>
    (s.pathTrack q k).any fun t => s.occupancy t == .occupied

/-- Path position `k` may be given back behind the train (R104). -/
def State.releasable (s : State) (q k : Nat) : Bool :=
  let w := s.route q
  let occ (j : Nat) := (s.pathTrack q j).any fun t => s.occupancy t == .occupied
  w.seen.contains k && ((s.pathTrack q k).any fun t => s.occupancy t == .clear)
    && (k == s.pathLength q || occ (k + 1) || w.seen.contains (k + 1))

/-- The release examination from path position `k` upward (R104). -/
def examineFrom (q : Nat) : Nat → Nat → State → State
  | 0, _, s => s
  | fuel + 1, k, s =>
    if s.releasable q k then
      let s := giveBackPath q k s
      if k = s.pathLength q then
        let s := if (s.route q).overlapReleased then s else giveBackOverlap q s
        endIfEmpty q .released s
      else examineFrom q fuel (k + 1) s
    else s

/-- The release examination (R104): from the lowest position not given back. A path has at most 12. -/
def examineRelease (q : Nat) (s : State) : State :=
  match (s.heldPositions q).head? with
  | some k => examineFrom q 12 k s
  | none => s

/-- The overlap timer starts, or the overlap is given back at once where overlap_time is 0 (R105). -/
def startOverlapTimer (q : Nat) (s : State) : State :=
  match s.routeRec q with
  | some r =>
    if (s.route q).overlapReleased then s
    else if r.overlapTime = 0 then giveBackOverlap q s
    else s.setRoute q { s.route q with overlapTimer := some (s.now + seconds r.overlapTime) }
  | none => s

/-- Starts the overlap timer if the last path track piece is OCCUPIED (R100). -/
def startIfLastOccupied (q : Nat) (s : State) : State :=
  if (s.occupiedPositions q).contains (s.pathLength q) then startOverlapTimer q s else s

/-- Entry to IN_USE with the positions seen occupied (R100, R107). -/
def enterInUse (q : Nat) (seen : List Nat) (c : RouteCause) (s : State) : State :=
  let s := changeRoute q { s.route q with state := .inUse, seen, approachTimer := none } c s
  examineRelease q (startIfLastOccupied q s)

/-! ## Occupancy of a held track piece -/

/-- A marked track piece that becomes CLEAR is given back (R86). -/
def clearMarked (q k t : Nat) (s : State) : State :=
  let s :=
    if k ≠ 0 then giveBackPath q k s
    else
      let s := giveBackOne q t s
      if (s.heldOverlap q).isEmpty then giveBackOverlap q s else s
  endIfEmpty q .forced s

/-- SIGNAL_PASSED_AT_DANGER (R101). -/
def spadRecord (x q t : Nat) (st : RouteState) : EventRec :=
  eventOf .signalPassedAtDanger .alarms x q t st.code

/-- The SPAD test (R101): `stood` is the entry signal's commanded aspect when the change arrived. -/
def testSpad (q t : Nat) (old : Occupancy) (stood : Nat → Aspect) (s : State) : State :=
  match s.routeRec q with
  | some r =>
    if old = .clear ∧ stood r.entry = .danger then raise (spadRecord r.entry q t (s.route q).state) s else s
  | none => s

/-- A fleet route's path after an occupancy change (R106). -/
def fleetPassed (q k : Nat) (new : Occupancy) (s : State) : State :=
  let w := s.route q
  if k = 1 ∧ new = .occupied then deriveAll false (s.setRoute q { w with passed := true })
  else if w.passed && new == .clear && s.allClear (((s.routeRec q).map (·.path)).getD []) then
    deriveAll false (s.setRoute q { w with passed := false })
  else s

/-- An IN_USE route after an occupancy change at path position `k` (R104, R105). -/
def inUsePassed (q k : Nat) (new : Occupancy) (s : State) : State :=
  let w := s.route q
  let s := if new = .occupied then s.setRoute q { w with seen := addNumber k w.seen } else s
  let s :=
    if k = s.pathLength q then
      if new = .occupied then startOverlapTimer q s else s.setRoute q { s.route q with overlapTimer := none }
    else s
  examineRelease q s

/-- FLC hands RIE a change of occupancy of the track piece `t` (R100 to R106, R86). -/
def routeOccupancy (stood : Nat → Aspect) (t : Nat) (old new : Occupancy) (s : State) : State :=
  let q := (s.lock t).holder
  if !s.railActive || q = 0 then s
  else
    let w := s.route q
    let k := s.pathPosition q t
    if w.forced then
      if (s.lock t).releaseOnClear && new == .clear then clearMarked q k t s else s
    else match w.state with
    | .locked =>
      let s := if k = 1 ∧ new = .occupied then testSpad q t old stood s else s
      if w.fleet then (if k = 0 then s else fleetPassed q k new s)
      else if k = 1 ∧ new = .occupied then enterInUse q (s.occupiedPositions q) .trainEntered s
      else s
    | .approachLocked =>
      if k = 1 ∧ new = .occupied then
        enterInUse q (s.occupiedPositions q) .trainEntered (testSpad q t old stood s)
      else s
    | .inUse => if k = 0 then s else inUsePassed q k new s
    | .free | .held | .setting | .restoring => s

/-! ## ROUTE_CANCEL (R84, R102, R107) -/

/-- DESK d, where d owns the district of the route's entry signal (R84, R85). -/
def State.ownsEntry (s : State) (o : Origin) (r : RouteRec) : Bool :=
  match o, s.signalRec r.entry with
  | .desk d, some x => (s.district x.district).owner == d
  | _, _ => false

/-- Cancels a LOCKED route that is not fleet (R102). -/
def cancelLocked (q : Nat) (r : RouteRec) (s : State) : State × ResultCode :=
  let w := s.route q
  if !w.clearedOnce || s.allClear r.approach || r.approachTime == 0 then (giveBackWhole q .cancelled s, .ok)
  else
    (changeRoute q { w with state := .approachLocked, approachTimer := some (s.now + seconds r.approachTime) }
      .cancelled s, .accepted)

/-- Ends fleeting (R107). -/
def cancelFleet (q : Nat) (r : RouteRec) (s : State) : State × ResultCode :=
  let w := s.route q
  if w.passed then
    let s := s.setRoute q { w with fleet := false }
    let upTo := (s.occupiedPositions q).getLastD 0
    (enterInUse q ((List.range upTo).map (· + 1)) .cancelled s, .ok)
  else cancelLocked q r (s.setRoute q { w with fleet := false })

/-- ROUTE_CANCEL (R84). -/
def requestCancel (q : Nat) (o : Origin) (s : State) : State × ResultCode :=
  if !s.railActive then (s, .wrongMode)
  else if !(decide (1 ≤ q ∧ q ≤ 192)) || !o.mayRequest then (s, .badValue)
  else match s.routeRec q with
  | none => (s, .notFound)
  | some r =>
    let w := s.route q
    if w.state = .free then (s, .notSet)
    else if o ≠ .auto ∧ w.origin ≠ some o ∧ !s.ownsEntry o r then (s, .noAuthority)
    else if w.forced then (s, .ok)
    else match w.state with
    | .free => (s, .notSet)
    | .held => (dropHeld q .cancelled s, .ok)
    | .setting => (beginRestoring w.context .cancelled s, .accepted)
    | .restoring => (s, .ok)
    | .inUse => (s, .inUse)
    | .approachLocked => (s, .ok)
    | .locked => if w.fleet then cancelFleet q r s else cancelLocked q r s

/-! ## ROUTE_FORCE_RELEASE (R85) -/

/-- One path track piece of a route being forced. -/
def forcePath (q k : Nat) (s : State) : State :=
  match s.pathTrack q k with
  | some t =>
    if s.occupancy t = .clear then giveBackPath q k s
    else s.setLock t { s.lock t with releaseOnClear := true }
  | none => s

/-- One overlap track piece of a route being forced. -/
def forceOverlap (q t : Nat) (s : State) : State :=
  if s.occupancy t = .clear then giveBackOne q t s
  else s.setLock t { s.lock t with releaseOnClear := true }

/-- Forces a route (R85): its signal is derived before anything is given back (log 9). -/
def forceRoute (q : Nat) (s : State) : State :=
  let s := s.setRoute q { s.route q with forced := true, approachTimer := none, overlapTimer := none }
  let s := deriveAll false s
  let s := (s.heldPositions q).foldl (fun s k => forcePath q k s) s
  let s := (s.heldOverlap q).foldl (fun s t => forceOverlap q t s) s
  let s := if (s.heldOverlap q).isEmpty && !(s.route q).overlapReleased then giveBackOverlap q s else s
  endIfEmpty q .forced s

/-- ROUTE_FORCE_RELEASE (R85). -/
def requestForce (q : Nat) (o : Origin) (s : State) : State × ResultCode :=
  if !s.railActive then (s, .wrongMode)
  else if !(decide (1 ≤ q ∧ q ≤ 192)) || !o.isHost then (s, .badValue)
  else match s.routeRec q with
  | none => (s, .notFound)
  | some r =>
    let w := s.route q
    if o ≠ .auto ∧ !s.ownsEntry o r then (s, .noAuthority)
    else match w.state with
    | .free | .held => (s, .notSet)
    | .setting | .restoring => (s, .busy)
    | .locked | .inUse | .approachLocked => if w.forced then (s, .ok) else (forceRoute q s, .ok)

/-! ## Timers -/

/-- ROUTE_HELD_EXPIRED (R74). -/
def heldExpiredRecord (q : Nat) (w : RouteWork) : EventRec :=
  eventOf .routeHeldExpired .routes q ((w.origin.map Origin.code).getD 0) ((w.heldReason.map ConflictReason.code).getD 0)

/-- The hold time of a HELD route arrives (R74). -/
def expireHeld (q : Nat) (s : State) : State :=
  dropHeld q .expired (raise (heldExpiredRecord q (s.route q)) s)

/-- The approach timer expires (R103). -/
def expireApproach (q : Nat) (s : State) : State := giveBackWhole q .approachExpired s

/-- The overlap timer expires (R105). -/
def expireOverlap (q : Nat) (s : State) : State := endIfEmpty q .released (giveBackOverlap q s)

/-! ## Mode changes (R88, R108) -/

/-- A hold time stops with the time it had left (R74). -/
def HoldTime.freeze (now : Nat) : HoldTime → HoldTime
  | .runs e => .frozen (e - now)
  | h => h

/-- Entry to HALTED: times stop and everything else stands (R88). -/
def freezeRoutes (s : State) : State :=
  { s with rie := { s.rie with routes := s.rie.routes.map fun e =>
      (e.1, { e.2 with hold := e.2.hold.freeze s.now, approachTimer := none, overlapTimer := none }) } }

/-- Entry to STOPPING: every HELD route is dropped, oldest first (R88). -/
def dropAllHeld (s : State) : State :=
  s.rie.heldQueue.foldl (fun s q => dropHeld q .stopping s) s

/-- A warm restart and the end of STOPPING: every record takes its cold-start value and the deck owner is cleared,
with no event (R88). -/
def clearRoutes (s : State) : State :=
  { s with rie := {}, ttc := { s.ttc with deckOwner := 0 } }

end Sys2Proof.Machine
end

