-- ==== Sys2Proof/Machine/ThrowEnds.lean ====
section
/-! DEFINITION. PTS: acknowledgements (R45, R46), how an order ends (R47 to R49), unwanted movement (R50), POINT_THROW
(R51) and abandonment (R53). -/

namespace Sys2Proof.Machine

/-- Tells every setting context on a list, in its order (3.5). -/
def tellContexts (p : Nat) (r : ThrowReport) (l : List Requester) (s : State) : State :=
  l.foldl (fun s q => match q with
    | .context n => reportThrow n p r s
    | .origin _ => s) s

/-- The detected lie is a given lie. -/
def Detected.isLie (d : Detected) (l : Lie) : Bool :=
  match d, l with
  | .normal, .normal => true
  | .reverse, .reverse => true
  | _, _ => false

/-- A MOTOR drive is stopped: STOP with the next number, and its slot is FREE at once (R46). -/
def stopMotor (p : Nat) (s : State) : State :=
  look (settleSlots p .free (s.setPoint p ((s.point p).command .stop)))

/-- The order of `p` has completed (R47). -/
def completeOrder (p : Nat) (s : State) : State :=
  match s.pointRec p, (s.point p).order with
  | some r, some o =>
    let w := s.point p
    let s := s.setPoint p { w with
      commanded := some o.lie, failed := false, order := none,
      redriveUsed := if o.cause = .redrive then w.redriveUsed else false }
    let s := if r.isMotor then stopMotor p s else s
    (tellContexts p .complete o.requesters s).triggerRescan
  | _, _ => s

/-- What the end of a failed order does to the drive command and the slot (R48, R49). -/
def failDrive (p : Nat) (r : PointRec) (ph : Phase) (c : ThrowFailure) (s : State) : State :=
  match r.driveKind, ph with
  | _, .waiting => s.setThrowQueue (s.pts.queue.filter (· != p))
  | .solenoid, .sent =>
    settleSlots p (.busy p (some (s.pulseRelease r s.now))) (s.setPoint p (s.point p).idle)
  | .solenoid, _ => s.setPoint p (s.point p).idle
  | .motor, _ =>
    if c = .nodeLost then look (settleSlots p .free (s.setPoint p (s.point p).idle)) else stopMotor p s

/-- The order of `p` has failed, but for what its requesters are told (R48, R49). -/
def endFailed (p : Nat) (c : ThrowFailure) (s : State) : State :=
  match s.pointRec p, (s.point p).order with
  | some r, some o =>
    let s := s.setPoint p { s.point p with failed := true, order := none }
    let s := failDrive p r o.phase c s
    (raise (failRecord s p o.lie c) s).triggerRescan
  | _, _ => s

/-- The requesters of the order of `p`; none without an order. -/
def State.requestersOf (s : State) (p : Nat) : List Requester := ((s.point p).order.map (·.requesters)).getD []

/-- The order of `p` has failed, and its requesters are told (R48). -/
def failOrder (p : Nat) (c : ThrowFailure) (s : State) : State :=
  tellContexts p (.failed c) (s.requestersOf p) (endFailed p c s)

/-- FLC hands on the acknowledgement of a command number (R44 to R46). -/
def acknowledge (p n : Nat) (s : State) : State :=
  let w := s.point p
  if n = 0 ∨ n ≠ w.commandNumber then s
  else if w.driveCommand = .stop then s.setPoint p w.idle
  else match s.pointRec p, w.order with
  | some r, some o =>
    if o.phase ≠ .sent then s
    else
      let o := { o with phase := if r.isMotor then .driving else .proving,
                        limitAt := some (s.now + tenths r.throwLimit) }
      let s :=
        if r.isMotor then s.setPoint p { w with order := some o }
        else settleSlots p (.busy p (some (s.pulseRelease r s.now))) (s.setPoint p { w.idle with order := some o })
      if (s.detected p).isLie o.lie then completeOrder p s else s
  | _, _ => s

/-- A lie a point can be commanded to, as a detected lie. -/
def Detected.lie? : Detected → Option Lie
  | .normal => some .normal
  | .reverse => some .reverse
  | _ => none

/-- The holders' lie of a held point (R40). -/
def State.holdersLie (s : State) (p : Nat) : Option Lie := (s.holders p).head?.map (·.2)

/-- POINT_UNWANTED (R50). -/
def unwantedRecord (p : Nat) (lie : Lie) (d : Detected) (redriven : Bool) : EventRec :=
  eventOf .pointUnwanted .alarms p (lieCode lie) d.code (yesNoCode redriven)

/-- Unwanted movement, where a change of detected lie is that (R50). -/
def unwantedMovement (p : Nat) (old new : Detected) (s : State) : State :=
  match s.holdersLie p with
  | none => s
  | some lie =>
    if new = .unknown ∨ new.isLie lie ∨ !(old.isLie lie || old == .unknown) then s
    else
      let w := s.point p
      let again := s.railActive && !w.redriveUsed
      let s := raise (unwantedRecord p lie new again) s
      if again then (placeOrder p lie .redrive none (s.setPoint p { w with redriveUsed := true })).1 else s

/-- FLC hands PTS a change of detected lie (R39, R47, R50). -/
def pointMoved (p : Nat) (old new : Detected) (s : State) : State :=
  let w := s.point p
  match w.order with
  | some o => if (o.phase = .driving ∨ o.phase = .proving) ∧ new.isLie o.lie then completeOrder p s else s
  | none =>
    let s := if w.commanded = none ∧ new.lie?.isSome then s.setPoint p { w with commanded := new.lie? } else s
    unwantedMovement p old new s

/-- Present points driven from a node, rising. -/
def State.pointsOn (s : State) (a : Nat) : List Nat :=
  (s.tables.points.filter fun e => e.2.drvNode == a).map (·.1)

/-- Every order for a point on a lost node fails, in ascending point id, and every drive command becomes NONE, an
unacknowledged STOP too (R49, log 10). The requesters are told once all have failed, so that a context's restoring finds
no order on the node to withdraw (log 10). -/
def loseNode (a : Nat) (s : State) : State :=
  let told := (s.pointsOn a).map fun p => (p, s.requestersOf p)
  let s := (s.pointsOn a).foldl (fun s p => endFailed p .nodeLost (s.setPoint p (s.point p).idle)) s
  told.foldl (fun s e => tellContexts e.1 (.failed .nodeLost) e.2 s) s

/-! ## POINT_THROW (R51) -/

def requestThrow (p : Nat) (lie : Option Lie) (o : Origin) (s : State) : State × ResultCode :=
  if s.mode ≠ .running then (s, .wrongMode)
  else match lie with
  | none => (s, .badValue)
  | some l =>
    if !(decide (1 ≤ p ∧ p ≤ 64)) || !o.isHost then (s, .badValue)
    else if (s.pointRec p).isNone then (s, .notFound)
    else match (s.pointCheck o p).refusal with
    | some c => (s, c)
    | none =>
      if !(s.holders p).isEmpty then (s, .held)
      else if s.hasOrder p then (s, .busy)
      else if s.liesAt p l then (s, .ok)
      else ((placeOrder p l .individual (some (.origin o)) s).1, .accepted)

/-! ## Abandonment (R53) -/

/-- Ends the order of one point without a report of failure. -/
def abandonOrder (s : State) (p : Nat) : State :=
  match s.pointRec p, (s.point p).order with
  | some r, some o =>
    let w := s.point p
    let commanded := if o.phase = .waiting then w.commanded else ((s.detected p).lie?).orElse fun _ => w.commanded
    let w := { w with order := none, commanded }
    let s := match o.phase, r.driveKind with
      | .waiting, _ => s.setPoint p w
      | .sent, .solenoid => settleSlots p (.busy p (some (s.pulseRelease r s.now))) (s.setPoint p w.idle)
      | .sent, .motor => settleSlots p .free (s.setPoint p w.idle)
      | .driving, _ => settleSlots p .free (s.setPoint p (w.command .stop))
      | .proving, _ => s.setPoint p w
    (tellContexts p .abandoned o.requesters s).triggerRescan
  | _, _ => s

/-- PTS abandons its work: the queue empties and every order ends (R53). -/
def abandonThrows (s : State) : State :=
  let s := s.setThrowQueue []
  s.tables.points.keys.foldl abandonOrder s

end Sys2Proof.Machine
end

