-- ==== Sys2Proof/Machine/Trains.lean ====
section
/-! DEFINITION. TD: the step geometry (R115), stepping and clearing (R116 to R120), berth windows (R124), and the making
and removing of train records (R111 to R113). -/

namespace Sys2Proof.Machine

namespace TrainWork

/-- The head; 0 while LOST (R109). -/
def head (w : TrainWork) : Nat := (w.footprint.head?.map (·.1)).getD 0

/-- The end of the head that the train faces; absent while LOST. -/
def direction (w : TrainWork) : Option TrackEnd := w.footprint.head?.map (·.2)

/-- The record is LOST (R109). -/
def isLost (w : TrainWork) : Bool := w.footprint.isEmpty

def holds (w : TrainWork) (t : Nat) : Bool := w.footprint.any fun e => e.1 == t

end TrainWork

namespace State

/-- The position of the train whose footprint holds a track piece. -/
def trainHolding (s : State) (t : Nat) : Option Nat := s.td.trains.find fun _ w => w.holds t

/-- The position of the ACTIVE train whose head is a track piece (R123). -/
def trainHeaded (s : State) (t : Nat) : Option Nat := s.td.trains.find fun _ w => !w.isLost && w.head == t

def trainCoded (s : State) (c : List Byte) : Option Nat := s.td.trains.find fun _ w => w.code == c

/-- The end of `u` by which a train arrives from `h` across a link (R115). -/
def enteringEnd (s : State) (h u : Nat) (l : Link) : TrackEnd :=
  match s.trackRec u with
  | none => .a
  | some r =>
    let deckEnd : Link := if s.roadTrackFaced .end1 = some h then Link.table 1 else Link.table 2
    (match l with
     | .track _ => r.endWhere (Link.names h)
     | .point _ _ _ => r.endWhere (· == Link.track h)
     | .table 0 => r.endWhere (· == deckEnd)
     | .table _ => r.endWhere (· == Link.table 0)
     | .open | .buffer => none).getD .a

/-- The front end a train gets by a step from `h` across its end `x` into `u` (R115). -/
def newFront (s : State) (h : Nat) (x : TrackEnd) (u : Nat) : TrackEnd :=
  match s.trackRec h with
  | some r => (s.enteringEnd h u (r.link x)).other
  | none => .b

/-- The end a train looks across in a tier of R117. -/
def lookEnd (w : TrainWork) (tier : Nat) : Option TrackEnd :=
  w.direction.map fun d => if tier = 1 then d else d.other

/-- The positions of the trains whose neighbour in a tier is `t` (R117). -/
def candidates (s : State) (t tier : Nat) : List Nat :=
  (s.td.trains.filter fun e =>
    match lookEnd e.2 tier with
    | some x => s.neighbour e.2.head x == some t
    | none => false).map (·.1)

end State

/-- The text of one berth window (R124). -/
def State.berthText (s : State) (w : Nat) : List Byte :=
  let t := (s.tables.berths.getD w {}).track
  if t = 0 then []
  else match (s.trainHeaded t).bind s.td.trains.get? with
  | some r => if r.shown then r.code else []
  | none => []

/-- TD recomputes every berth window (R124). -/
def computeBerths (s : State) : State :=
  let texts := ((List.range 12).map (· + 1)).map fun w => (w, s.berthText w)
  { s with td := { s.td with berths := texts.filter fun e => !e.2.isEmpty } }

/-- A head has changed: TD hands it to VPC and recomputes the windows (R123, R124). -/
def headChanged (n head : Nat) (s : State) : State := (computeBerths s).post (.headChange n head)

def setTrain (n : Nat) (w : TrainWork) (s : State) : State := s.setTrains (s.td.trains.put n w)

/-! ## Stepping (R116 to R118) -/

/-- The footprint after a step: a seventh entry is dropped (R117). -/
def grow (e : Nat × TrackEnd) (l : List (Nat × TrackEnd)) : List (Nat × TrackEnd) := (e :: l).take 6

/-- Train `n` steps into `t` (R117). -/
def stepTrain (n t tier : Nat) (s : State) : State :=
  match s.td.trains.get? n with
  | none => s
  | some w =>
    match State.lookEnd w tier with
    | none => s
    | some x =>
      let front := s.newFront w.head x t
      let s := setTrain n { w with footprint := grow (t, front) w.footprint } s
      headChanged n t (raise (eventOf .trainStep .trains n t w.head tier) s)

/-- The stepping examination of `t` (R117, R118). -/
def stepInto (t : Nat) (s : State) : State :=
  let first := s.candidates t 1
  let tier := if first.isEmpty then 2 else 1
  match s.candidates t tier with
  | [] => raise (eventOf .undescribed .trains t) s
  | [n] => stepTrain n t tier s
  | l => raise (eventOf .trainAmbiguous .trains t l.length) s

/-- A change to OCCUPIED (R116). -/
def trackOccupied (t : Nat) (old : Occupancy) (s : State) : State :=
  if old = .clear ∧ (s.trainHolding t).isNone then stepInto t s else s

/-! ## Clearing (R119, R120) -/

/-- The footprint once `t` has cleared: where the head cleared, the first entry left faces the other way (R119). -/
def strikeOff (t : Nat) (l : List (Nat × TrackEnd)) : List (Nat × TrackEnd) :=
  match l with
  | [] => []
  | e :: rest =>
    if e.1 = t then
      match rest.filter fun x => x.1 != t with
      | [] => []
      | f :: more => (f.1, f.2.other) :: more
    else e :: rest.filter fun x => x.1 != t

/-- A change to CLEAR (R119, R120). -/
def trackCleared (t : Nat) (s : State) : State :=
  match s.trainHolding t with
  | none => s
  | some n =>
    match s.td.trains.get? n with
    | none => s
    | some w =>
      let w' := { w with footprint := strikeOff t w.footprint }
      if w'.isLost then
        let s := setTrain n { w' with lastTrack := t } s
        headChanged n 0 (raise (eventOf .trainLost .trains n t) s)
      else
        let s := setTrain n w' s
        if w.head = t then headChanged n w'.head s else s

/-- One answer's changes: every change to OCCUPIED, then every change to CLEAR, each in rising order (R116). -/
def trainOccupancies (changes : List (Nat × Occupancy × Occupancy)) (s : State) : State :=
  let s := (changes.filter fun c => c.2.2 == .occupied).foldl (fun s c => trackOccupied c.1 c.2.1 s) s
  (changes.filter fun c => c.2.2 == .clear).foldl (fun s c => trackCleared c.1 s) s

/-! ## Requests -/

/-- READY, RUNNING, STOPPING or HALTED (R97, R111, R113, R59). -/
def State.inWork (s : State) : Bool := s.loopRuns

/-- The lowest free record position (R109). -/
def State.freePosition (s : State) : Option Nat :=
  ((List.range 32).map (· + 1)).find? fun n => !s.td.trains.has n

/-- What an accepted interpose asks (R112). -/
structure Interpose where
  code : List Byte
  track : Nat
  direction : TrackEnd
  cls : TrainClass
  shown : Bool
  origin : Origin
  deriving DecidableEq, Repr

def Interpose.record (i : Interpose) : TrainWork :=
  { code := i.code, cls := i.cls, footprint := [(i.track, i.direction)], lastTrack := 0, shown := i.shown,
    origin := i.origin }

/-- R111, from case 3 on: the record position, or the refusal. -/
def State.placeInterpose (s : State) (i : Interpose) : Except ResultCode Nat :=
  match s.trackRec i.track with
  | none => .error .notFound
  | some r =>
    match (s.districtCheck i.origin r.district).refusal with
    | some c => .error c
    | none =>
      if s.occupancy i.track ≠ .occupied then .error .notOccupied
      else if (s.trainHolding i.track).isSome then .error .sectionDescribed
      else match s.trainCoded i.code with
      | some n => if (s.td.trains.get? n).any (·.isLost) then .ok n else .error .duplicate
      | none => match s.freePosition with
        | some n => .ok n
        | none => .error .full

/-- An accepted interpose (R112). -/
def interpose (n : Nat) (i : Interpose) (s : State) : State := headChanged n i.track (setTrain n i.record s)

/-- The district TRAIN_CANCEL is judged in (R113 case 4). -/
def State.trainDistrict (s : State) (w : TrainWork) : Nat :=
  ((s.trackRec (if w.isLost then w.lastTrack else w.head)).map (·.district)).getD 0

/-- R113, from case 3 on. -/
def State.judgeTrainCancel (s : State) (c : List Byte) (o : Origin) : Except ResultCode Nat :=
  match s.trainCoded c with
  | none => .error .notFound
  | some n =>
    match s.td.trains.get? n with
    | none => .error .notFound
    | some w =>
      if o = .auto ∨ o = w.origin then .ok n
      else match (s.districtCheck o (s.trainDistrict w)).refusal with
      | some e => .error e
      | none => .ok n

/-- Removes a record (R113). -/
def removeTrain (n : Nat) (s : State) : State :=
  let lost := (s.td.trains.get? n).any (·.isLost)
  let s := s.setTrains (s.td.trains.erase n)
  if lost then computeBerths s else headChanged n 0 s

end Sys2Proof.Machine
end

