-- ==== Sys2Proof/Machine/Visitor.lean ====
section
/-! DEFINITION. VPC (spec chapter 10): lamps (R157), the visitor queue (R159, R160), the script runner (R161 to R167), and
the message line of the board (R168 to R170). -/

namespace Sys2Proof.Machine

/-! ## The message line (R168, R169) -/

namespace Vpc

/-- The text of a message slot. -/
def slotText (v : Vpc) (n : Nat) : List Byte := v.slots.getD n []

/-- Rotation positions whose slot is not empty, in list order. -/
def fullPositions (v : Vpc) : List Nat :=
  ((numbered v.rotation).filter fun e => !(v.slotText e.2).isEmpty).map (·.1)

/-- dwell_timer restarts with dwell, unless an override stands or the rotation shows nothing (R169). -/
def restartDwell (v : Vpc) (now dwell : Nat) : Vpc :=
  { v with dwellAt := if v.shown.isNone && v.cursor != 0 then some (now + seconds dwell) else none }

/-- The cursor is set anew (R169). -/
def setAnew (v : Vpc) (now dwell : Nat) : Vpc :=
  { v with cursor := v.fullPositions.headD 0 }.restartDwell now dwell

/-- The cursor moves to the next entry whose slot is not empty, wrapping (R169). -/
def advance (v : Vpc) (now dwell : Nat) : Vpc :=
  let later := v.fullPositions.filter fun k => decide (v.cursor < k)
  { v with cursor := (later ++ v.fullPositions).headD 0 }.restartDwell now dwell

/-- The slot at the cursor; 0 for none. -/
def cursorSlot (v : Vpc) : Nat := if v.cursor = 0 then 0 else (v.rotation[v.cursor - 1]?).getD 0

/-- The message line (R169). -/
def line (v : Vpc) : List Byte :=
  match v.shown with
  | some (n, _) => v.slotText n
  | none => if v.cursorSlot = 0 then [] else v.slotText v.cursorSlot

/-- Stores a text (R168) and lets the rotation follow (R169). That the cursor moves on, and is set anew, while an
override stands too is the model's choice (log 13). -/
def putText (v : Vpc) (n : Nat) (text : List Byte) (now dwell : Nat) : Vpc :=
  let v := { v with slots := if text.isEmpty then v.slots.erase n else v.slots.put n text }
  if v.cursorSlot = n ∧ text.isEmpty then v.advance now dwell
  else if v.cursor = 0 ∧ !text.isEmpty ∧ v.rotation.contains n then v.setAnew now dwell
  else v

/-- Installs a rotation (R170). -/
def setRotation (v : Vpc) (l : List Nat) (now dwell : Nat) : Vpc :=
  { v with rotation := withoutRepeats l }.setAnew now dwell

/-- A SHOW (R165, R169). -/
def startShow (v : Vpc) (n expiry : Nat) : Vpc := { v with shown := some (n, expiry), dwellAt := none }

/-- The override expires: the rotation resumes at its cursor (R169). -/
def endShow (v : Vpc) (now dwell : Nat) : Vpc := { v with shown := none }.restartDwell now dwell

/-- The board at a warm restart and at loop stop (R170). -/
def resetBoard (v : Vpc) (now dwell : Nat) : Vpc := { v with shown := none }.setAnew now dwell

end Vpc

/-! ## Lamps (R157) -/

namespace State

/-- The present script that names a button. -/
def scriptOf (s : State) (b : Nat) : Option Nat := s.tables.scripts.find fun _ r => r.button == b

/-- The PANEL node is ONLINE. -/
def panelOnline (s : State) : Bool :=
  s.tables.nodes.any fun e => e.2.kind == .panel && (s.node e.1).state == .online

def turnsTable (r : ScriptRec) : Bool :=
  r.steps.any fun st => match st with
    | .turnTable _ _ => true
    | _ => false

/-- The script is admissible (R157). -/
def admissible (s : State) (k : Nat) : Bool :=
  match s.scriptRec k with
  | some r =>
    s.scriptCheck k == .pass && (!turnsTable r || (s.ttc.state != .unhomed && s.ttc.state != .fault))
  | none => false

/-- The script is in cool-down. -/
def coolingDown (s : State) (k : Nat) : Bool := s.vpc.coolDowns.has k

/-- The pattern of a button's lamp, by the first line of R157's table that applies. -/
def lampOf (s : State) (b : Nat) : Lamp :=
  if s.mode ≠ .running ∨ !s.vpc.enable ∨ !s.panelOnline then .off
  else match s.scriptOf b with
  | none => .off
  | some k =>
    if s.vpc.runner.script = k then .fast
    else if s.coolingDown k then .off
    else if !s.admissible k then .off
    else if s.vpc.queue.any fun e => e.script == k then .slow
    else .steady

end State

/-- VPC chooses every lamp afresh (R157). A lamp that is OFF is not listed. -/
def refreshLamps (s : State) : State :=
  let l := ((List.range 16).map (· + 1)).map fun b => (b, s.lampOf b)
  s.setVpc { s.vpc with lamps := l.filter fun e => e.2 != .off }

/-! ## VISITOR events -/

/-- Value 1 of a VISITOR event (11.8). -/
inductive VisitorNews where
  | queued | started | step | completed | aborted | expired | dropped
  deriving DecidableEq, Repr

def VisitorNews.code : VisitorNews → Nat
  | .queued => 1 | .started => 2 | .step => 3 | .completed => 4 | .aborted => 5 | .expired => 6 | .dropped => 7

def visitorRecord (k : Nat) (n : VisitorNews) (v2 v3 : Nat) : EventRec := eventOf .visitor .visitor k n.code v2 v3

/-! ## The queue (R158 to R160) -/

/-- The longest queue. -/
def visitorCapacity : Nat := 8

/-- A press (R158). -/
def press (b : Nat) (s : State) : State :=
  match s.scriptOf b with
  | none => s
  | some k =>
    if s.lampOf b = .steady ∧ s.vpc.queue.length < visitorCapacity then
      let e : VisitorEntry := { button := b, script := k, pressedAt := s.now,
                                expiresAt := s.now + seconds s.general.visitorWaitLimit }
      let q := s.vpc.queue ++ [e]
      (raise (visitorRecord k .queued b q.length) (s.setVpc { s.vpc with queue := q })).post .startExam
    else s

/-- The oldest queue entry whose script may start (R160). -/
def State.startable (s : State) : Option VisitorEntry :=
  if s.mode = .running ∧ s.vpc.runner.script = 0 then s.vpc.queue.find? fun e => s.admissible e.script else none

/-- The start examination (R160). -/
def startExam (s : State) : State :=
  match s.startable with
  | none => s
  | some e =>
    match s.scriptRec e.script with
    | none => s
    | some r =>
      let runner : Runner := { script := e.script, button := e.button, runtimeAt := some (s.now + seconds r.maxRuntime) }
      let s := s.setVpc { s.vpc with queue := s.vpc.queue.filter (· != e), runner, arrival := none }
      (raise (visitorRecord e.script .started e.button 0) s).post .beginStep

/-- Every entry is dropped, oldest first (R159). -/
def dropQueue (c : AbortCause) (s : State) : State :=
  let q := s.vpc.queue
  q.foldl (fun s e => raise (visitorRecord e.script .dropped c.code e.button) s) (s.setVpc { s.vpc with queue := [] })

/-! ## The end of a script (R166, R167) -/

/-- The runner is cleared and the script's cool-down starts. -/
def endRunner (s : State) : State :=
  let k := s.vpc.runner.script
  let cool := ((s.scriptRec k).map (·.coolDown)).getD 0
  s.setVpc { s.vpc with
    runner := {}, coolDowns := if cool = 0 then s.vpc.coolDowns else s.vpc.coolDowns.put k (s.now + seconds cool) }

/-- Completion (R166). -/
def completeScript (s : State) : State :=
  let r := s.vpc.runner
  (endRunner (raise (visitorRecord r.script .completed r.button 0) s)).post .startExam

/-- Whether a start examination follows an abort (R167). -/
def AbortCause.examines : AbortCause → Bool
  | .stepFailed | .runtime | .district => true
  | .disabled | .stopping | .halted => false

/-- The cancel an aborted script makes of a route it owns (R167). -/
def cancelOwned (s : State) (q : Nat) : State :=
  match (s.route q).state with
  | .held | .setting | .locked => (requestCancel q .visitor s).1
  | _ => s

/-- Abort of the running script (R167). -/
def abortScript (c : AbortCause) (f : StepFailure) (s : State) : State :=
  let r := s.vpc.runner
  if r.script = 0 then s
  else
    let s := raise (visitorRecord r.script .aborted c.code r.step) s
    let s := s.setVpc { s.vpc with lastAbort := some { script := r.script, cause := c, step := r.step, failure := f } }
    let s := if c = .halted then s else r.owned.foldl cancelOwned s
    let s := endRunner s
    if c.examines then s.post .startExam else s

/-! ## Steps (R161 to R165) -/

def clearStep (r : Runner) : Runner := { r with awaiting := .none, stepRoute := 0, stepTimer := none }

/-- The step in progress is done (R161). `train` is the train position of a WAIT_ARRIVAL. -/
def stepDone (train : Nat) (s : State) : State :=
  let r := s.vpc.runner
  let s := raise (visitorRecord r.script .step r.step train) s
  let last := ((s.scriptRec r.script).map (·.steps.length)).getD 0
  if last ≤ r.step then completeScript (s.setRunner (clearStep r))
  else (s.setRunner { clearStep r with step := r.step + 1 }).post .beginStep

/-- The step in progress fails (R161). -/
def stepFails (f : StepFailure) (s : State) : State :=
  abortScript .stepFailed f (s.setRunner (clearStep s.vpc.runner))

/-- Waits, with a timer. -/
def awaitWith (a : Awaiting) (d : Nat) (s : State) : State :=
  s.setRunner { s.vpc.runner with awaiting := a, stepTimer := some (s.now + seconds d) }

/-- The hold_limit of a SET_ROUTE step: the runtime left in whole seconds, rounded up, at least 1 (R162). -/
def runtimeLimit (s : State) : Nat := max 1 ((s.timeLeft s.vpc.runner.runtimeAt + 999999) / 1000000)

/-- An owned route joins the list, at its end and once (R161). -/
def own (q : Nat) (s : State) : State :=
  let r := s.vpc.runner
  s.setRunner { r with owned := r.owned.filter (· != q) ++ [q] }

/-- A SET_ROUTE step (R162). -/
def beginSetRoute (q : Nat) (s : State) : State :=
  let (s, reply) := requestRoute q .visitor true false (runtimeLimit s) s
  match reply.code with
  | .ok => stepDone 0 (own q s)
  | .accepted | .queued =>
    if (s.route q).state = .free then stepFails (.routeCause (s.route q).cause) s
    else
      let s := own q s
      s.setRunner { s.vpc.runner with awaiting := .route, stepRoute := q }
  | c => stepFails (.refusal c) s

/-- The deck is as a TURN_TABLE step asked (R163). -/
def State.turnedTo (s : State) (road : Nat) (e : DeckEndAsked) : Bool :=
  s.isAligned && (match e with
    | .end1 => s.ttc.face1 == road
    | .end2 => s.ttc.face2 == road
    | .either => s.ttc.face1 == road || s.ttc.face2 == road)

/-- Judges a TURN_TABLE step by the state in which TTC stands once it no longer moves (R163). -/
def judgeTurn (road : Nat) (e : DeckEndAsked) (s : State) : State :=
  if s.ttc.state.isMoving then s
  else if s.turnedTo road e then stepDone 0 s
  else stepFails (.tableState s.ttc.state) s

/-- A TURN_TABLE step (R163). -/
def beginTurn (road : Nat) (e : DeckEndAsked) (s : State) : State :=
  let (s, code) := requestMove .visitor road (some e) s
  match code with
  | .ok => stepDone 0 s
  | .accepted => judgeTurn road e (s.setRunner { s.vpc.runner with awaiting := .table })
  | c => stepFails (.refusal c) s

/-- A train that a WAIT_ARRIVAL step accepts (R164). -/
def State.matchesTrain (s : State) (n : Nat) : Option TrainWork :=
  (s.td.trains.get? n).filter fun w =>
    match (s.scriptRec s.vpc.runner.script).bind (·.trainCode) with
    | some c => w.code == c
    | none => true

/-- A matching train has arrived (R164). -/
def arrived (n : Nat) (w : TrainWork) (s : State) : State :=
  stepDone n (s.setVpc { s.vpc with arrival := some { position := n, code := w.code, cls := w.cls } })

/-- A WAIT_ARRIVAL step (R164). -/
def beginArrival (t d : Nat) (s : State) : State :=
  match s.trainHeaded t with
  | some n =>
    match s.matchesTrain n with
    | some w => arrived n w s
    | none => awaitWith .arrival d s
  | none => awaitWith .arrival d s

/-- The step the runner stands at. -/
def State.currentStep (s : State) : Option ScriptStep :=
  let r := s.vpc.runner
  if r.script = 0 ∨ r.step = 0 then none else (s.scriptRec r.script).bind fun x => x.steps[r.step - 1]?

/-- Begins the runner's step (R161 to R165). -/
def beginStep (s : State) : State :=
  match s.currentStep with
  | none => s
  | some (.setRoute q) => beginSetRoute q s
  | some (.turnTable r e) => beginTurn r e s
  | some (.waitArrival t d) => beginArrival t d s
  | some (.waitClear t d) => if s.occupancy t = .clear then stepDone 0 s else awaitWith .clear d s
  | some (.display n d) => stepDone 0 (s.setVpc (s.vpc.startShow n (s.now + seconds d)))
  | some (.pause d) => awaitWith .time d s
  | some (.cancelRoute q) =>
    stepDone 0 (if s.vpc.runner.owned.contains q then (requestCancel q .visitor s).1 else s)

/-! ## What the neighbours hand to VPC -/

/-- A change that has been handed on is past: the route stands where only a later request or change can have brought it
(log 13). -/
def State.pastNews (s : State) (q : Nat) (st : RouteState) : Bool :=
  match st, (s.route q).state with
  | .free, .free => false
  | .free, _ => true
  | .locked, .held | .locked, .setting => true
  | _, _ => false

/-- A change of route state (R161, R162). One that a later request has overtaken in the same event is not this
request's. -/
def routeNews (q : Nat) (st : RouteState) (c : RouteCause) (s : State) : State :=
  if s.pastNews q st then s
  else
  let r := s.vpc.runner
  let s := if st = .free then s.setRunner { r with owned := r.owned.filter (· != q) } else s
  if r.awaiting = .route ∧ r.stepRoute = q then
    match st with
    | .locked => stepDone 0 s
    | .free => stepFails (.routeCause c) s
    | _ => s
  else s

/-- A change of TTC's state (R163). -/
def tableNews (s : State) : State :=
  match s.vpc.runner.awaiting, s.currentStep with
  | .table, some (.turnTable r e) => judgeTurn r e s
  | _, _ => s

/-- A change of head (R164). -/
def headNews (n head : Nat) (s : State) : State :=
  match s.vpc.runner.awaiting, s.currentStep with
  | .arrival, some (.waitArrival t _) =>
    if head = t then
      match s.matchesTrain n with
      | some w => arrived n w s
      | none => s
    else s
  | _, _ => s

/-- A change of occupancy (R164). -/
def trackNews (t : Nat) (o : Occupancy) (s : State) : State :=
  match s.vpc.runner.awaiting, s.currentStep with
  | .clear, some (.waitClear u _) => if u = t ∧ o = .clear then stepDone 0 s else s
  | _, _ => s

/-- VPC judges the running script after an assignment (R60). -/
def judgeScript (s : State) : State :=
  let k := s.vpc.runner.script
  if k ≠ 0 ∧ s.scriptCheck k ≠ .pass then abortScript .district .none s else s

/-- The step timer expires (R164, R165). -/
def stepTimeUp (s : State) : State :=
  match s.vpc.runner.awaiting with
  | .time => stepDone 0 s
  | .arrival | .clear => stepFails .timeout s
  | .none | .route | .table => s

/-! ## The working enable (R154) -/

/-- The working enable takes a value, with the effects of R154. -/
def setEnable (on : Bool) (s : State) : State :=
  if s.vpc.enable = on then s
  else
    let s := s.setVpc { s.vpc with enable := on }
    if on || s.mode != .running then s else dropQueue .disabled (abortScript .disabled .none s)

/-! ## Mode changes (R172) -/

/-- Entry to STOPPING or to HALTED. -/
def closeVisitors (c : AbortCause) (s : State) : State := dropQueue c (abortScript c .none s)

/-- Warm restart (R172). -/
def restartVisitors (s : State) : State :=
  s.setVpc ({ s.vpc with queue := [], runner := {}, coolDowns := [], enable := s.general.visitorAtStart
            }.resetBoard s.now s.general.dwell)

/-- Loop stop (R172). -/
def stopVisitors (s : State) : State :=
  s.setVpc ({ s.vpc with coolDowns := [] }.resetBoard s.now s.general.dwell)

end Sys2Proof.Machine
end

