-- ==== Sys2Proof/Machine/FieldLoop.lean ====
section
/-! DEFINITION. FLC: the poll cycle and its frames (R21 to R24), node states and channel loss (R25 to R29), occupancy (R31
to R33), detection (R34), proving (R35) and buttons (R36). -/

namespace Sys2Proof.Machine

/-! ## The frame sent (R21, R24) -/

/-- The address of the next exchange (R21). -/
def State.nextPoll (s : State) : Option Nat :=
  ((s.polled.filter fun a => decide (s.flc.lastPolled < a)) ++ s.polled).head?

/-- The point on a channel of a node. -/
def State.pointAt (s : State) (a ch : Nat) : Option Nat := s.tables.points.find fun _ r => r.drvNode == a && r.drvChan == ch

/-- The signal on a head of a node. -/
def State.signalAt (s : State) (a h : Nat) : Option Nat := s.tables.signals.find fun _ r => r.headNode == a && r.head == h

/-- The OUTPUT frame for a node of a kind, from the present outputs (R24). -/
def State.outputFrame (s : State) (a : Nat) (k : NodeKind) : SentFrame :=
  let upTo (n : Nat) := (List.range n).map (· + 1)
  match k with
  | .absent | .detect => .detectOutput
  | .point => .pointOutput ((upTo 8).map fun ch => match s.pointAt a ch with
      | some p => ((s.point p).driveCommand, (s.point p).commandNumber)
      | none => (.none, 0))
  | .signal => .signalOutput ((upTo 8).map fun h => (s.signalAt a h).map fun x => (s.signal x).commanded)
  | .panel => .panelOutput ((upTo 16).map fun b => s.vpc.lamps.getD b .off)
  | .board => .boardOutput s.vpc.line ((upTo 12).map fun w => s.td.berths.getD w [])

/-- The frame FLC sends to a node in its state (R21). -/
def State.frameFor (s : State) (a : Nat) : SentFrame :=
  match (s.node a).state with
  | .online | .missing => s.outputFrame a (s.nodeRec a).kind
  | .absent | .census | .lost | .mismatch => .identify

/-- An exchange opens (R22). -/
def openExchange (s : State) : State :=
  match s.flc.exchange, s.nextPoll with
  | none, some a =>
    if s.loopRuns then
      let e : Exchange := { address := a, sent := s.frameFor a, windowAt := s.now + ms s.general.replyWindow }
      { s with flc := { s.flc with exchange := some e, lastPolled := a } }
    else s
  | _, _ => s

/-! ## Events (R29, R33, R34) -/

def nodeRecord (a : Nat) (new old : NodeState) (k : NodeKind) : EventRec :=
  eventOf .nodeState .nodes a new.code old.code (nodeKindCode k)

def nodeStatusRecord (a : Nat) (low fault : Bool) : EventRec :=
  eventOf .nodeStatus .nodes a (yesNoCode low) (yesNoCode fault)

def trackRecord (c : Nat × Occupancy × Occupancy) : EventRec :=
  eventOf .sectionState .sections c.1 c.2.2.code c.2.1.code

def detectedRecord (c : Nat × Detected × Detected) : EventRec :=
  eventOf .pointDetected .points c.1 c.2.2.code c.2.1.code

/-! ## Hand-offs -/

/-- The changes of occupancy of one event: SECTION_STATE in rising order, then RIE, SAU, TD and VPC (R33, R116). RIE takes
them in rising track number, with every occupancy of the answer taken already: R116 orders them for TD only (log 9). -/
def handOccupancies (changes : List (Nat × Occupancy × Occupancy)) (stood : Nat → Aspect) (s : State) : State :=
  let s := changes.foldl (fun s c => routeOccupancy stood c.1 c.2.1 c.2.2 s) s
  let s := trainOccupancies changes (deriveAll false s)
  changes.foldl (fun s c => s.post (.trackChange c.1 c.2.2)) s

/-- The changes of detected lie of one event: PTS, then SAU (R34), for each point before the next, in rising point number
and with every reading of the answer taken already: R29 orders their records only (log 9). -/
def handDetections (changes : List (Nat × Detected × Detected)) (s : State) : State :=
  changes.foldl (fun s c => deriveAll false (pointMoved c.1 c.2.1 c.2.2 s)) s

/-- A node's state and record change: NODE_STATE first (R29). -/
def setNodeState (a : Nat) (w : NodeWork) (s : State) : State :=
  let old := s.node a
  let s := s.setNode a w
  if w.state = old.state then s else raise (nodeRecord a w.state old.state w.reportedKind) s

/-- supply_low and drive_fault of a good answer (R29). -/
def takeStatus (a : Nat) (low fault : Bool) (s : State) : State :=
  let w := s.node a
  if w.supplyLow = low ∧ w.driveFault = fault then s
  else raise (nodeStatusRecord a low fault) (s.setNode a { w with supplyLow := low, driveFault := fault })

/-! ## Channels of a node -/

/-- Track pieces whose detector is on a node, rising. -/
def State.tracksOn (s : State) (a : Nat) : List (Nat × TrackRec) := s.tables.tracks.filter fun e => e.2.detNode == a

/-- Signals on a node, in rising head number: the order in which its heads are taken (log 17). -/
def State.signalsOn (s : State) (a : Nat) : List (Nat × Nat) :=
  ((List.range 8).map (· + 1)).filterMap fun h => (s.signalAt a h).map fun x => (h, x)

/-- A detector reading (R31, R32). -/
def TrackRead.read (w : TrackRead) (g : GeneralRec) (occupied : Bool) : TrackRead :=
  let seen : Occupancy := if occupied then .occupied else .clear
  if w.firstPending then { occupancy := seen, count := 0, firstPending := false }
  else if w.occupancy = seen then { w with count := 0 }
  else
    let limit := if occupied then g.occupyCount else g.clearCount
    if limit ≤ w.count + 1 then { w with occupancy := seen, count := 0 } else { w with count := w.count + 1 }

/-- The class of a contact reading (R34). -/
def contactClass (c : ContactReading) : Detected :=
  match c.normalMade, c.reverseMade with
  | true, false => .normal
  | false, true => .reverse
  | false, false => .moving
  | true, true => .contactFault

/-- A contact reading (R34). -/
def PointRead.read (w : PointRead) (c : Detected) : PointRead :=
  { detected := if w.lastReading = some c then c else w.detected, lastReading := some c }

/-- A button reading (R36). -/
def ButtonRead.read (w : ButtonRead) (pressed : Bool) : ButtonRead :=
  let agrees := w.lastReading == some pressed
  { pressed := if agrees then pressed else w.pressed, lastReading := some pressed, confirmed := w.confirmed || agrees }

/-- The reading is a press (R36): a change to PRESSED that is not the first state taken. -/
def ButtonRead.isPress (w : ButtonRead) (pressed : Bool) : Bool :=
  w.lastReading == some pressed && pressed && !w.pressed && w.confirmed

/-! ## Readings (R31 to R36) -/

/-- Sets the reading records of a list of track pieces and lists the changes of occupancy. -/
def setReads (l : List (Nat × TrackRead)) (s : State) : State × List (Nat × Occupancy × Occupancy) :=
  let changes := l.filterMap fun e =>
    if e.2.occupancy = s.occupancy e.1 then none else some (e.1, s.occupancy e.1, e.2.occupancy)
  let s := l.foldl (fun s e => s.setTrackRead e.1 e.2) s
  (changes.foldl (fun s c => raise (trackRecord c) s) s, changes)

/-- The same for points. -/
def setContacts (l : List (Nat × PointRead)) (s : State) : State × List (Nat × Detected × Detected) :=
  let changes := l.filterMap fun e =>
    if e.2.detected = s.detected e.1 then none else some (e.1, s.detected e.1, e.2.detected)
  let s := l.foldl (fun s e => s.setPointRead e.1 e.2) s
  (changes.foldl (fun s c => raise (detectedRecord c) s) s, changes)

/-- The readings of a DETECT node (R31 to R33). -/
def readDetectors (a : Nat) (r : List Bool) (s : State) : State :=
  let stood := fun x => (s.signal x).commanded
  let reads := (s.tracksOn a).filterMap fun e =>
    r[e.2.detInput - 1]?.map fun v => (e.1, (s.trackRead e.1).read s.general v)
  let (s, changes) := setReads reads s
  if changes.isEmpty then s else handOccupancies changes stood s

/-- The channel reading of a point. -/
def State.contactOf (s : State) (l : List ContactReading) (p : Nat) : Option ContactReading :=
  (s.pointRec p).bind fun r => l[r.drvChan - 1]?

/-- The acknowledgement a channel carries for the frame it answers (R24). -/
def ackOf (sent : SentFrame) (ch : Nat) (c : ContactReading) : Option Nat :=
  match sent with
  | .pointOutput l => match l[ch - 1]? with
    | some (_, n) => if n ≠ 0 ∧ c.ack.toNat = n then some n else none
    | none => none
  | _ => none

/-- The readings of a POINT node: acknowledgements (R24), then detection (R34). The acknowledgements of several points reach
PTS in rising point number, which orders the ends of their orders (R47): the manual names no order (log 9). -/
def readContacts (a : Nat) (sent : SentFrame) (c : List ContactReading) (s : State) : State :=
  let pts := s.pointsOn a
  let s := pts.foldl (fun s p => match s.pointRec p, s.contactOf c p with
    | some r, some v => match ackOf sent r.drvChan v with
      | some n => acknowledge p n s
      | none => s
    | _, _ => s) s
  let reads := pts.filterMap fun p => (s.contactOf c p).map fun v => (p, (s.pointRead p).read (contactClass v))
  let (s, changes) := setContacts reads s
  handDetections changes s

/-- The readings of a SIGNAL node (R35): one for an aspect no longer commanded is discarded. The heads are judged one by
one in rising head number, each after the ripple of those before it, and the aspects are compared by value alone, so that
an aspect that has changed and changed back takes its reading (log 17). -/
def readLamps (a : Nat) (sent : SentFrame) (proven : List Bool) (s : State) : State :=
  match sent with
  | .signalOutput aspects =>
    (s.signalsOn a).foldl (fun s e => match proven[e.1 - 1]?, aspects[e.1 - 1]? with
      | some v, some (some asp) =>
        if asp = (s.signal e.2).commanded then takeProving e.2 (if v then .proven else .notProven) s else s
      | _, _ => s) s
  | _ => s

/-- The readings of the PANEL (R36): presses are handed to VPC (R158). Several presses of one answer reach it in rising button
number, which decides their places in the visitor queue: the manual names no order (log 9). -/
def readButtons (r : List Bool) (s : State) : State :=
  (numbered r).foldl (fun s e =>
    let w := s.button e.1
    let s := s.setButton e.1 (w.read e.2)
    if w.isPress e.2 then s.post (.press e.1) else s) s

/-- The kind an INPUT answer reports (2.4). -/
def inputKind : InputData → NodeKind
  | .absent => .absent
  | .detect _ => .detect
  | .point _ => .point
  | .signal _ => .signal
  | .panel _ => .panel
  | .board => .board

/-- The readings of an answer of the configured kind. -/
def applyReadings (a : Nat) (sent : SentFrame) (d : InputData) (s : State) : State :=
  match d with
  | .absent | .board => s
  | .detect r => readDetectors a r s
  | .point c => readContacts a sent c s
  | .signal p => readLamps a sent p s
  | .panel p => readButtons p s

/-! ## Channel loss (R28) -/

def loseButtons (a : Nat) (s : State) : State :=
  if (s.nodeRec a).kind = .panel then { s with flc := { s.flc with buttons := [] } } else s

/-- The heads of a lost node: all of them are UNKNOWN before a signal is derived, so that each signal changes once and
raises one record (R28, R96). -/
def loseHeads (a : Nat) (s : State) : State :=
  let heads := (s.signalsOn a).map (·.2)
  deriveList false heads (heads.foldl (fun s x => s.setProving x .unknown) s)

/-- Channel loss: sections, points and heads become unknown, PTS fails the node's orders, the neighbours act (R28), in
the order of log 9. -/
def loseChannels (a : Nat) (s : State) : State :=
  let stood := fun x => (s.signal x).commanded
  let (s, tracks) := setReads ((s.tracksOn a).map fun e => (e.1, {})) s
  let (s, _) := setContacts ((s.pointsOn a).map fun p => (p, {})) s
  handOccupancies tracks stood (loseNode a (loseHeads a (loseButtons a s)))

/-! ## Node states (R25 to R27) -/

/-- A node enters ONLINE: its heads are AWAITED, in rising head number, SAU derives afresh and PTS looks (R35, R43,
log 9, log 17). -/
def nodeOnline (a : Nat) (s : State) : State :=
  let s := (s.signalsOn a).foldl (fun s e => if s.proving e.2 = .unknown then takeProving e.2 .awaited s else s) s
  look (deriveAll false s)

/-- A good IDENTITY answer (R25). -/
def applyIdentity (a : Nat) (k : NodeKind) (low fault : Bool) (s : State) : State :=
  let w := { s.node a with misses := 0, reportedKind := k }
  if k = (s.nodeRec a).kind ∧ k ≠ .absent then
    nodeOnline a (takeStatus a low fault (setNodeState a { w with state := .online } s))
  else deriveAll false (setNodeState a { w with state := .mismatch } s)

/-- A good INPUT answer (R25). NODE_STATUS stands after NODE_STATE and before the records of the readings (log 9). -/
def applyInput (a : Nat) (sent : SentFrame) (d : InputData) (low fault : Bool) (s : State) : State :=
  let w := { s.node a with misses := 0, reportedKind := inputKind d }
  if inputKind d = (s.nodeRec a).kind then
    let back := (s.node a).state != .online
    let s := takeStatus a low fault (setNodeState a { w with state := .online } s)
    applyReadings a sent d (if back then look (deriveAll false s) else s)
  else loseChannels a (setNodeState a { w with state := .mismatch } s)

/-- A miss (R26, R27). -/
def applyMiss (a : Nat) (s : State) : State :=
  let w := s.node a
  let m := w.misses + 1
  match w.state with
  | .online | .missing =>
    if 3 ≤ m then loseChannels a (setNodeState a { w with state := .lost, misses := 3 } s)
    else deriveAll false (setNodeState a { w with state := .missing, misses := m } s)
  | .census =>
    if 3 ≤ m then loseNode a (setNodeState a { w with state := .absent, misses := 3 } s)
    else s.setNode a { w with misses := m }
  | .absent | .lost => s.setNode a { w with misses := 3 }
  | .mismatch =>
    if 3 ≤ m then deriveAll false (setNodeState a { w with state := .lost, misses := 3 } s)
    else s.setNode a { w with misses := m }

/-- A complete frame received in an open exchange (R22). -/
def closeWith (e : Exchange) (f : FieldFrame) (s : State) : State :=
  let s := s.setExchange none
  if f.checkGood && f.address == e.address then
    match e.sent, f.body with
    | .identify, .identity k low fault => applyIdentity e.address k low fault s
    | .identify, _ => applyMiss e.address s
    | sent, .input d low fault => applyInput e.address sent d low fault s
    | _, _ => applyMiss e.address s
  else applyMiss e.address s

/-- The reply window of an exchange expires (R22). -/
def closeExpired (e : Exchange) (s : State) : State := applyMiss e.address (s.setExchange none)

end Sys2Proof.Machine
end

