-- ==== Sys2Proof/Machine/Image.lean ====
section
/-! DEFINITION. The image in the serial memory (spec 11.7): the bytes that LTS writes of the tables, and how it judges the
bytes it reads (R178, R184). -/

namespace Sys2Proof.Machine

/-- Codes of the image result (11.8). -/
inductive ImageResult where
  | read | noMemory | badHeader | badCheck | notRead
  deriving DecidableEq, Repr

def ImageResult.code : ImageResult → Nat
  | .read => 0 | .noMemory => 1 | .badHeader => 2 | .badCheck => 3 | .notRead => 4

/-- Number of table bytes of an image: open but for its bounds (11.7, log 5). -/
def tableBytes (t : Tables) : Nat := 1 + Config.freeImageBytes t % 32761

/-- The tables field: how records are encoded in it is the controller's own, so each byte is open (11.7, log 5). -/
def tableField (t : Tables) : List Byte := (List.range (tableBytes t)).map (Config.freeImageByte t)

/-- A number in two bytes, most significant byte first. -/
def twoBytes (n : Nat) : List Byte := [BitVec.ofNat 8 (n / 256), BitVec.ofNat 8 n]

/-- The number that two bytes of an image hold, the first at an offset. -/
def numberAt (l : List Byte) (offset : Nat) : Nat := (l.getD offset 0).toNat * 256 + (l.getD (offset + 1) 0).toNat

/-- The sum of bytes, modulo 65536 (11.7). -/
def imageSum (l : List Byte) : Nat := (l.map (·.toNat)).sum % 65536

/-- The marker 0x49, 0x58 and the format 0x01 (11.7). -/
def imageMarker : List Byte := [0x49, 0x58, 0x01]

/-- The bytes before the check: the header and the tables field (11.7). -/
def imageFront (t : Tables) : List Byte := imageMarker ++ twoBytes (tableBytes t) ++ tableField t

/-- The image of some tables, from memory address 0 (11.7). -/
def imageBytes (t : Tables) : List Byte := imageFront t ++ twoBytes (imageSum (imageFront t))

/-- What the bytes of an image are found to be (R178): the header is judged before the check, and an image that ends before
the length it names has no check that matches. -/
def judgeImage (l : List Byte) : ImageResult :=
  let n := numberAt l 3
  if l.take 3 ≠ imageMarker ∨ n < 1 ∨ 32761 < n then .badHeader
  else if l.length < 7 + n ∨ numberAt l (5 + n) ≠ imageSum (l.take (5 + n)) then .badCheck
  else .read

end Sys2Proof.Machine
end

