-- ==== Sys2Proof/Machine/Modes.lean ====
section
/-! DEFINITION. LTS: the mode changes and what every block does at each (R20, R178 to R182), the end of a configuration
check and the stored image (R178, R179, R184, R185). -/

namespace Sys2Proof.Machine

/-! ## The loop starts and stops (R20) -/

/-- Loop start: every configured node enters CENSUS with its record as after cold start; a node of kind NONE keeps its
record (R20). -/
def startLoop (s : State) : State :=
  let nodes := s.polled.foldl (fun t a => t.put a { state := .census }) s.flc.nodes
  { s with flc := { s.flc with nodes, exchange := none, lastPolled := 0 } }

/-- A node at loop stop: ABSENT with misses 0; what it has reported stays (R20). -/
def NodeWork.stopped (w : NodeWork) : NodeWork := { w with state := .absent, misses := 0 }

/-- FLC at loop stop: every reading takes its cold-start value and the exchange is abandoned (R20). -/
def Flc.stopped (f : Flc) : Flc := { nodes := f.nodes.map fun e => (e.1, e.2.stopped) }

/-- Loop stop: FLC, PTS, SAU, TD, TTC and VPC as their chapters state (R20, R39, R89, R125, R126, R172). -/
def stopLoop (s : State) : State :=
  stopVisitors { s with flc := s.flc.stopped, pts := {}, sau := [], td := {}, ttc := coldTtc s.ttc }

/-! ## STOPPING and HALTED -/

/-- Entry to STOPPING (R180). -/
def enterStopping (s : State) : State :=
  let s := deriveAll true (enterMode .stopping .request s)
  dropAllHeld (closeVisitors .stopping s)

/-- PTS has an order IN_FLIGHT, or a queued order whose node is ONLINE (R180). -/
def State.throwsGoOn (s : State) : Bool :=
  (s.pts.points.any fun e => e.2.order.any fun o => o.phase != .waiting) || s.eligibleOrder.isSome

/-- The conditions under which STOPPING ends (R180). -/
def State.stoppingOver (s : State) : Bool :=
  s.mode == .stopping && ([1, 2, 3, 4].all fun n => (s.context n).phase == .free)
    && !s.throwsGoOn && !s.ttc.state.isMoving

/-- The end of STOPPING (R180, R88). -/
def endStopping (s : State) : State :=
  let s := enterMode .ready .stoppingEnd s
  deriveAll true (clearRoutes (abandonThrows s))

/-- Entry to HALTED (R181). -/
def enterHalted (c : ModeCause) (s : State) : State :=
  let s := deriveAll true (enterMode .halted c s)
  let s := closeVisitors .halted s
  freezeRoutes (haltTable (abandonThrows s))

/-- A warm restart (R182). -/
def warmRestart (s : State) : State :=
  let s := s.setHl { s.hl with queue := [], dropped := 0 }
  let s := enterMode .ready .restart s
  let s := deriveAll true (clearRoutes s)
  let s := haltTable (abandonThrows s)
  restartVisitors (endReleases s)

/-! ## The end of a check (R178, R179) -/

/-- Raises CHECK_DONE and keeps its values for GET_MODE (R178, R183). -/
def checkDone (r : ImageResult) (c : CheckResult) (s : State) : State :=
  let v3 := c.table * 256 + c.index
  let s := raise (eventOf .checkDone .mode 0 r.code c.code.code v3) s
  s.setLts { s.lts with lastCheck := (r.code, c.code.code, v3) }

/-- A passing check: the sets are installed and the controller enters READY (R178, R179). -/
def enterConfigured (s : State) : State :=
  let t := s.tables
  let s := s.setLts { s.lts with routeSets := t.routeSets, scriptSets := t.scriptSets, checking := none }
  startLoop (copyDistricts (enterMode .ready .check s))

/-- A load that does not pass: empty tables and UNCONFIGURED (R178). -/
def enterUnconfigured (s : State) : State :=
  let s := s.setLts { s.lts with tables := {}, routeSets := [], scriptSets := [], checking := none }
  enterMode .unconfigured .check s

/-- The visitor enable is copied when STARTING ends (R154). -/
def copyEnable (s : State) : State := s.setVpc { s.vpc with enable := s.general.visitorAtStart }

/-- What an image read gives: the result, the tables and the damaged records. -/
structure ImageGiven where
  result : ImageResult
  tables : Tables := {}
  damaged : List (Nat × Nat) := []
  deriving DecidableEq, Repr

/-- What the serial memory gives, and the uses of an open value (log 7). The controller's own image is judged by its bytes
(R178); memory without a whole one reads like one whose image was cut short (log 8). -/
def readImage (f : ImageFound) (s : State) : ImageGiven × State :=
  match f with
  | .noMemory => ({ result := .noMemory }, s)
  | .badHeader => ({ result := .badHeader }, s)
  | .badCheck => ({ result := .badCheck }, s)
  | .image t dmg => ({ result := .read, tables := t, damaged := dmg }, s)
  | .lastStored =>
    match s.serial with
    | .holds t image =>
      match judgeImage image with
      | .read => ({ result := .read, tables := t }, s)
      | r => ({ result := r }, s)
    | .unwritten | .damaged =>
      ({ result := if Config.freeDamagedIsHeader s.freeUse then .badHeader else .badCheck },
        { s with freeUse := s.freeUse + 1 })

/-- The end of the image read of STARTING or RELOAD (R178, R185). -/
def finishLoad (f : ImageFound) (s : State) : State :=
  let starting := s.mode == .starting
  let (g, s) := readImage f s
  let c := g.tables.check g.damaged
  let s := match g.result with
    | .read =>
      let s := checkDone .read c s
      if c.code = .pass then enterConfigured (s.setLts { s.lts with tables := g.tables }) else enterUnconfigured s
    | r => enterUnconfigured (checkDone r {} s)
  if starting then copyEnable s else s

/-- The end of the check that COMMIT started (R179). -/
def finishCommit (s : State) : State :=
  let c := s.tables.check
  let s := checkDone .notRead c s
  if c.code = .pass then enterConfigured s
  else
    let s := s.setLts { s.lts with routeSets := [], scriptSets := [], checking := none }
    enterMode .configuring .check s

/-! ## STORE (R184) -/

/-- The write of the image ends (R184): where every byte was acknowledged the memory holds the bytes of 11.7. -/
def finishStore (t : Tables) (ok : Bool) (s : State) : State :=
  let s := s.setLts { s.lts with storing := none }
  if ok then raise (eventOf .storeDone .mode 0 0 (tableBytes t)) { s with serial := .holds t (imageBytes t) }
  else raise (eventOf .storeDone .mode 0 1) { s with serial := .damaged }

/-! ## Cold start (R178) -/

/-- The serial memory when a cold start cuts a STORE short (R184). -/
def State.serialAfterReset (s : State) : SerialImage :=
  if s.lts.storing.isSome then .damaged else s.serial

/-- Every block at its cold-start values, held in reset (R178). Commands that wait, the memory's contents and the count
of open values stay. -/
def resetAll (s : State) : State :=
  { inReset := true, ttc := { boltLevel := s.ttc.boltLevel }, serial := s.serialAfterReset, freeUse := s.freeUse,
    pending := s.pending }

/-- A cold start (R178): STARTING, with the levels of the straps, ESTOP_N and BOLT_IN as read. -/
def coldStart (estop : Bool) (baud : BitVec 2) (boltIn : Bool) (s : State) : State :=
  { hl := { queue := [startingRecord], baud }, lts := { estop }, ttc := { boltLevel := boltIn },
    serial := s.serialAfterReset, freeUse := s.freeUse, pending := s.pending }

end Sys2Proof.Machine
end

