-- ==== Sys2Proof/Machine/Settle.lean ====
section
/-! DEFINITION. An event runs to its end: the hand-offs it has posted are carried out, then the start examination (R160),
the re-scan (R73) and the end of STOPPING (R180) where they are due (log 1). -/

namespace Sys2Proof.Machine

/-- Carries out one hand-off. -/
def runWork (w : Work) (s : State) : State :=
  match w with
  | .raise e => raise e s
  | .moveReport n r => reportMove n r s
  | .routeChange q st c => routeNews q st c s
  | .tableChange => tableNews s
  | .headChange n h => headNews n h s
  | .trackChange t o => trackNews t o s
  | .press b => press b s
  | .startExam => startExam s
  | .beginStep => beginStep s
  | .judgeScript => judgeScript s

/-- The next thing an event has to do; `none` when it has come to its end. What a hand-off posts comes before the
hand-offs that waited behind it. -/
def settleOnce (s : State) : Option State :=
  match s.work with
  | w :: rest =>
    let s := runWork w { s with work := [] }
    some { s with work := s.work ++ rest }
  | [] =>
    if s.startable.isSome then some (startExam s)
    else if s.rescanDue then some (rescan { s with rescanDue := false })
    else if s.stoppingOver then some (endStopping s)
    else none

/-- Runs an event on for at most `n` things; what would be left after them is dropped, so that nothing is due between
events (log 1). -/
def settle : Nat → State → State
  | 0, s => { s with work := [], rescanDue := false }
  | n + 1, s =>
    match settleOnce s with
    | some t => settle n t
    | none => s

/-- More than any event can need beyond the hand-offs it has posted (log 1). -/
def settleLimit : Nat := 4096

/-- The end of an event: everything due is done, and the lamps are chosen afresh (R157). -/
def finish (s : State) : State := refreshLamps (settle (settleLimit + s.work.length) s)

end Sys2Proof.Machine
end

