-- ==== Sys2Proof/Machine/HostLink.lean ====
section
/-! DEFINITION. HL: how a request frame becomes the request in service and how its owner's decision becomes the reply that
is due (R174, R175), and the shape every meaning has. -/

namespace Sys2Proof.Machine

/-- What a step of the controller answers. -/
abbrev Out : Type := Host.Outcome State Fault Refusal

/-- The result of a request and what follows it in the reply. -/
structure Answer where
  result : ResultCode
  body : ReplyBody := .plain
  deriving DecidableEq, Repr

/-- A block's decision on a request: the state after it and the reply. -/
abbrev Decision : Type := State × Answer

/-- A refusal, or a query: nothing changes. -/
def answer (c : ResultCode) (s : State) : Decision := (s, { result := c })

/-- A query answered OK. -/
def reports (b : ReplyBody) (s : State) : Decision := (s, { result := .ok, body := b })

/-- A request that has its effect: the event runs to its end. -/
def effect (c : ResultCode) (s : State) : Decision := (finish s, { result := c })

/-- The result tells of an effect: OK, ACCEPTED or QUEUED (11.2). -/
def ResultCode.takes : ResultCode → Bool
  | .ok | .accepted | .queued => true
  | _ => false

/-- A block's own decision, run to its end where it is no refusal. -/
def decided (r : State × ResultCode) : Decision :=
  if r.2.takes then effect r.2 r.1 else answer r.2 r.1

/-- An event changes the state, unless the controller is held in reset (R178). -/
def act (f : State → State) (s : State) : Out :=
  if s.inReset then .next s else .next (f s)

/-- An expiry, or another event that can occur only where `t` names something: it changes nothing elsewhere (log 2). -/
def actOn {α : Type} (t : State → Option α) (f : α → State → State) (s : State) : Out :=
  act (fun s => match t s with
    | some a => finish (f a s)
    | none => s) s

/-- The modes in which only IDENTIFY and GET_MODE are let through (R174 case 3). -/
def Mode.isBusy : Mode → Bool
  | .starting | .checking => true
  | _ => false

/-- IDENTIFY and GET_MODE. -/
def alwaysTaken (kind : Byte) : Bool := kind == 0x01#8 || kind == 0x02#8

/-- The receiver is HUNTING again after a complete frame (R173). -/
def frameTaken (s : State) : State := s.setHl { s.hl with receiver := .hunting }

/-- A decision becomes the reply that is due (R175). -/
def reply (kind : Byte) (d : Decision) : State :=
  d.1.setHl { d.1.hl with reply := some { kind, result := d.2.result, body := d.2.body } }

/-- A good frame arrives (R174): discarded while a request is in service, and otherwise the request in service, which
`judge` decides. -/
def takeFrame (kind : Byte) (judge : State → Decision) (s : State) : State :=
  let s := frameTaken s
  if s.hl.inService.isSome then s.setHl { s.hl with requestLost := true }
  else reply kind (judge (s.setHl { s.hl with inService := some kind }))

/-- The owner decides, unless the mode lets the request not through (R174 cases 3 and 4). -/
def letThrough (kind : Byte) (owner : State → Decision) (s : State) : Decision :=
  if s.mode.isBusy && !alwaysTaken kind then answer .busy s else owner s

/-- A request frame whose kind and length are good. -/
def takeRequest (kind : Byte) (owner : State → Decision) (s : State) : State :=
  takeFrame kind (letThrough kind owner) s

/-- The meaning of a request command. -/
def serve (kind : Byte) (owner : State → Decision) (s : State) : Out := act (takeRequest kind owner) s

end Sys2Proof.Machine
end

