-- ==== Sys2Proof/Machine/Frames.lean ====
section
/-! DEFINITION. The byte layouts of the host line that the spec gives (11.8): frames and their check, request kinds and
body lengths, the event record, and the route record. -/

namespace Sys2Proof.Machine

/-- The start byte of a frame. -/
def startByte : Byte := 0xA5#8

/-- The sum of bytes modulo 256 (R173). -/
def byteSum (l : List Byte) : Byte := l.foldl (· + ·) 0#8

/-- The check byte: with it, length, kind, body and check sum to 0 (R173). -/
def checkByte (l : List Byte) : Byte := 0#8 - byteSum l

/-- A frame: start, length of kind and body, kind, body and check. -/
def frameBytes (kind : Byte) (body : List Byte) : List Byte :=
  let counted := BitVec.ofNat 8 (body.length + 1) :: kind :: body
  startByte :: counted ++ [checkByte counted]

/-- The collected bytes of a frame, length first, are good (R173). -/
def frameGood (l : List Byte) : Bool := byteSum l == 0#8

/-- A number of 16 bits, most significant byte first. -/
def word (v : BitVec 16) : List Byte := [v.extractLsb' 8 8, v.extractLsb' 0 8]

/-- The event record (kind 0x7F, length 11). -/
def eventBody (e : EventRec) : List Byte :=
  [BitVec.ofNat 8 e.kind.code, BitVec.ofNat 8 e.cls.bit] ++ word e.subject ++ word e.v1 ++ word e.v2 ++ word e.v3

def eventFrame (e : EventRec) : List Byte := frameBytes 0x7F#8 (eventBody e)

/-- The kind of a reply: the request kind + 0x80 (11.8). That the sum is taken modulo 256 where the kind is 0x80 or above,
in a BAD_KIND reply, is the model's choice (log 22). -/
def replyKind (kind : Byte) : Byte := kind + 0x80#8

/-- The result byte: the code, with REQUEST_LOST in bit 7. -/
def resultByte (c : ResultCode) (lost : Bool) : Byte :=
  BitVec.ofNat 8 c.code ||| (if lost then 0x80#8 else 0#8)

/-! ## Request kinds and body lengths -/

/-- Lengths a body may have: the least and the greatest (the table of request body lengths); `none` for no request
kind. -/
def bodyLengths (kind : Byte) : List (Nat × Nat) :=
  match kind.toNat with
  | 0x01 | 0x02 | 0x03 | 0x06 | 0x07 | 0x08 | 0x09 | 0x0A | 0x0B | 0x0C | 0x11 | 0x12 | 0x44 | 0x4A => [(0, 0)]
  | 0x04 => [(3, 124)]
  | 0x05 | 0x10 | 0x21 | 0x22 | 0x31 | 0x32 | 0x48 | 0x49 => [(2, 2)]
  | 0x20 | 0x30 => [(5, 5)]
  | 0x23 | 0x24 | 0x29 | 0x2D | 0x33 | 0x40 | 0x42 | 0x43 | 0x50 => [(1, 1)]
  | 0x28 | 0x2C | 0x41 => [(3, 3)]
  | 0x38 => [(11, 11)]
  | 0x39 => [(7, 7)]
  | 0x3A => [(1, 1), (6, 6)]
  | 0x4B => [(2, 124)]
  | 0x4C => [(1, 124)]
  | _ => []

/-- The kind is a request kind. -/
def isRequestKind (kind : Byte) : Bool := !(bodyLengths kind).isEmpty

/-- The length is one that the kind carries. -/
def lengthSuits (kind : Byte) (n : Nat) : Bool :=
  (bodyLengths kind).any fun e => decide (e.1 ≤ n) && decide (n ≤ e.2)

/-! ## The route record (11.8) -/

/-- Bit k−1 for each position k. -/
def positionBits (l : List Nat) : BitVec 16 :=
  l.foldl (fun v k => v ||| (1#16 <<< (k - 1))) 0#16

def byteOf (n : Nat) : Byte := BitVec.ofNat 8 n

def outcomeCode : JournalOutcome → Nat
  | .pending => 0 | .complete | .aligned => 1 | .failed | .refused => 2 | .withdrawn => 3 | .abandoned | .ended => 4

def restoreCode : RestoreMark → Nat
  | .none => 0 | .placed => 1 | .skipped => 2 | .done => 3

def deckEndCode : DeckEnd → Nat
  | .end1 => 1 | .end2 => 2

/-- The 7 bytes of a journal entry. -/
def entryBytes (e : JournalEntry) : List Byte :=
  (match e.target with
   | .point p lie none => [0, p, lieCode lie, 0, 0]
   | .point p lie (some prev) => [0, p, lieCode lie, lieCode prev, 0]
   | .table road de none => [1, road, deckEndCode de, 0, 0]
   | .table road de (some (r, e)) => [1, road, deckEndCode de, r, deckEndCode e]).map byteOf
  ++ [byteOf (outcomeCode e.outcome), byteOf (restoreCode e.restore)]

def routeFlags (w : RouteWork) : Nat :=
  yesNoCode w.fleet + 2 * yesNoCode w.clearedOnce + 4 * yesNoCode w.passed + 8 * yesNoCode w.overlapReleased
    + 16 * yesNoCode w.forced

/-- Body bytes 1 on of the reply to ROUTE_STATUS. -/
def routeBody (q : Nat) (w : RouteWork) (hold approach overlap pos : Nat) (c : Context) : List Byte :=
  word (BitVec.ofNat 16 q)
  ++ [byteOf w.state.code, byteOf ((w.origin.map Origin.code).getD 0), byteOf (routeFlags w), byteOf w.cause.code,
      byteOf w.context, byteOf ((w.heldReason.map ConflictReason.code).getD 0)]
  ++ word (BitVec.ofNat 16 hold) ++ word (BitVec.ofNat 16 approach) ++ word (BitVec.ofNat 16 overlap)
  ++ [byteOf pos] ++ word (positionBits w.seen) ++ word (positionBits w.released)
  ++ [byteOf c.phase.code, byteOf c.journal.length] ++ c.journal.flatMap entryBytes

/-- Body bytes the spec lays out, after the result: the reason byte, the event classes and the route record. The other
replies carry the fields their rules name, in a layout the spec does not give; the record position of TRAIN_INTERPOSE is
taken to be one byte (log 15). -/
def ReplyBody.bytes? : ReplyBody → Option (List Byte)
  | .plain => some []
  | .reason r => some [byteOf r.code]
  | .eventClasses m => some (word m)
  | .recordPosition n => some [byteOf n]
  | .route q w h a o p c => some (routeBody q w h a o p c)
  | _ => none

/-- The bytes on TXD of what is being sent, where the spec gives them. -/
def Transmitter.bytes? : Transmitter → Option (List Byte)
  | .idle => some []
  | .event e => some (eventFrame e)
  | .reply r lost => r.body.bytes?.map fun b => frameBytes (replyKind r.kind) (resultByte r.result lost :: b)

end Sys2Proof.Machine
end

