-- ==== Sys2Proof/Decode.lean ====
section
/-! DEFINITION. Decoding. The opcode table gives its rows no bits, so no word spells a command; a request frame's kind
and body spell a request (11.8). -/

namespace Sys2Proof

/-- The table gives no row any bits, so no word spells a command. -/
def decodeTableWord (_nbits _w : Nat) : Option Instr := none

/-- What a good frame is (R174 cases 1 and 2). -/
inductive FrameRead where
  | badKind
  | badLength
  | request (i : Instr)
  deriving DecidableEq, Repr

/-- Body byte `n`. -/
def bodyByte (b : List Byte) (n : Nat) : Byte := b.getD n 0#8

/-- Two body bytes, most significant first. -/
def bodyWord (b : List Byte) (n : Nat) : BitVec 16 := bodyByte b n ++ bodyByte b (n + 1)

/-- The record part of a TABLE_WRITE: form 0 CLEAR, form 1 a record in an encoding that is open (log 6); another form
fits no field. -/
def writeFormOf (table : Nat) (b : List Byte) : WriteForm :=
  if bodyByte b 2 = 0#8 then .clear
  else if bodyByte b 2 = 1#8 then Config.freeRecordOf table (b.drop 3)
  else .misfit

/-- The request that a kind and a body of a length the kind carries stand for. -/
def requestFields (kind : Byte) (b : List Byte) : Option Instr :=
  let at' := bodyByte b
  match kind.toNat with
  | 0x01 => some .identify
  | 0x02 => some .getMode
  | 0x03 => some .configure
  | 0x04 => some (.tableWrite (at' 0) (at' 1) (writeFormOf (at' 0).toNat b))
  | 0x05 => some (.tableRead (at' 0) (at' 1))
  | 0x06 => some .commit
  | 0x07 => some .store
  | 0x08 => some .reload
  | 0x09 => some .start
  | 0x0A => some .stop
  | 0x0B => some .halt
  | 0x0C => some .restart
  | 0x10 => some (.eventMask (bodyWord b 0))
  | 0x11 => some .eventHold
  | 0x12 => some .eventResume
  | 0x20 => some (.routeSet (at' 0) (at' 1) (at' 2) (bodyWord b 3))
  | 0x21 => some (.routeCancel (at' 0) (at' 1))
  | 0x22 => some (.routeForceRelease (at' 0) (at' 1))
  | 0x23 => some (.routeStatus (at' 0))
  | 0x24 => some (.sectionStatus (at' 0))
  | 0x28 => some (.pointThrow (at' 0) (at' 1) (at' 2))
  | 0x29 => some (.pointStatus (at' 0))
  | 0x2C => some (.signalReminder (at' 0) (at' 1) (at' 2))
  | 0x2D => some (.signalStatus (at' 0))
  | 0x30 => some (.districtAssign (at' 0) (at' 1) (at' 2) (at' 3) (at' 4))
  | 0x31 => some (.districtTake (at' 0) (at' 1))
  | 0x32 => some (.districtGiveBack (at' 0) (at' 1))
  | 0x33 => some (.districtStatus (at' 0))
  | 0x38 => some (.trainInterpose (b.take 6) (at' 6) (at' 7) (at' 8) (at' 9) (at' 10))
  | 0x39 => some (.trainCancel (b.take 6) (at' 6))
  | 0x3A => some (.trainStatus (if b.length = 1 then .position (at' 0) else .code b))
  | 0x40 => some (.tableHome (at' 0))
  | 0x41 => some (.tableMove (at' 0) (at' 1) (at' 2))
  | 0x42 => some (.tableStop (at' 0))
  | 0x43 => some (.tableHalt (at' 0))
  | 0x44 => some .tableStatus
  | 0x48 => some (.visitorEnable (at' 0) (at' 1))
  | 0x49 => some (.visitorDefault (at' 0) (at' 1))
  | 0x4A => some .visitorStatus
  | 0x4B => some (.messagePut (at' 0) (at' 1) (b.drop 2))
  | 0x4C => some (.rotationSet (at' 0) (b.drop 1))
  | 0x50 => some (.nodeStatus (at' 0))
  | _ => none

/-- A TABLE_WRITE of form 0 carries 3 bytes alone. -/
def clearTooLong (kind : Byte) (b : List Byte) : Bool :=
  kind == 0x04#8 && bodyByte b 2 == 0#8 && decide (3 < b.length)

/-- A good frame, judged for its kind and its length (R174 cases 1 and 2). -/
def requestOf (kind : Byte) (b : List Byte) : FrameRead :=
  if !Machine.isRequestKind kind then .badKind
  else if !Machine.lengthSuits kind b.length || clearTooLong kind b then .badLength
  else match requestFields kind b with
  | some i => .request i
  | none => .badKind

/-- The frame bytes of a request whose body is `b`, from the layout of 11.8. -/
def requestFrame (kind : Byte) (b : List Byte) : List Byte := Machine.frameBytes kind b

end Sys2Proof
end

