-- ==== Sys2Proof/Machine/CmdDistricts.lean ====
section
/-! DEFINITION. The commands of DAT (spec 4.3, 4.4). -/

namespace Sys2Proof.Machine

/-- Causes of a DISTRICT event (11.8). -/
inductive DistrictNews where
  | assigned | taken | givenBack
  deriving DecidableEq, Repr

def DistrictNews.code : DistrictNews → Nat
  | .assigned => 1 | .taken => 2 | .givenBack => 3

def districtRecord (d : Nat) (n : DistrictNews) (v2 v3 : Nat) : EventRec :=
  eventOf .district .routes d n.code v2 v3

/-! ## DISTRICT_ASSIGN (R59, R60) -/

/-- An assignment that changes the record: VPC judges the running script, then DISTRICT, then the re-scan (R60). -/
def assignDistrict (d owner : Nat) (shared : Bool) (cls : VisitorClass) (s : State) : State :=
  let s := s.setDistrict d { s.district d with owner, shared, visitorClass := cls }
  let s := (s.post .judgeScript).post .startExam
  (s.post (.raise (districtRecord d .assigned owner (visitorClassCode cls)))).triggerRescan

/-- DISTRICT_ASSIGN's decision, once its fields are read. -/
def judgeAssign (d owner : Nat) (shared : Option Bool) (cls : Option VisitorClass) (o : Origin) (s : State) : Decision :=
  if !s.inWork then answer .wrongMode s
  else if o ≠ .auto then answer .noAuthority s
  else match shared, cls with
  | some sh, some c =>
    if !within 1 8 d || !within 0 8 owner then answer .badValue s
    else
      let w := s.district d
      if w.owner = owner ∧ w.shared = sh ∧ w.visitorClass = c then answer .ok s
      else effect .ok (assignDistrict d owner sh c s)
  | _, _ => answer .badValue s

def ownDistrictAssign (d owner shared cls origin : Byte) (s : State) : Decision :=
  judgeAssign d.toNat owner.toNat (yesNoOf shared) (visitorClassOf cls) (originOf origin) s

/-- DISTRICT_ASSIGN (R59). -/
def execDistrictAssign (d owner shared cls origin : Byte) (s : State) : Out :=
  serve 0x30#8 (ownDistrictAssign d owner shared cls origin) s

/-! ## DISTRICT_TAKE (R61, R62) -/

/-- A present route in one of some states has the district in its touched-district set. -/
def State.routeTouches (s : State) (d : Nat) (f : RouteState → Bool) : Bool :=
  s.tables.routes.any fun e => f (s.route e.1).state && (s.routeSet e.1).contains d

/-- Present points of a district. -/
def State.pointsIn (s : State) (d : Nat) : List Nat :=
  (s.tables.points.filter fun e => e.2.district == d).map (·.1)

/-- The DECK is in the district and the turntable is in a moving state. -/
def State.deckTurnsIn (s : State) (d : Nat) : Bool :=
  (s.deckTrack.bind s.trackRec).any (fun r => r.district == d) && s.ttc.state.isMoving

/-- The refusals of DISTRICT_TAKE from case 3 on, for DESK `desk` (R61). -/
def takeRefusal (d desk : Nat) (s : State) : Option ResultCode :=
  let w := s.district d
  if w.releaseHolder = desk then some .duplicate
  else if w.released then some .localRelease
  else if !w.base (.desk desk) then some .noAuthority
  else if s.routeTouches d (fun st => st == .setting || st == .restoring) then some .busy
  else if s.routeTouches d (fun st => st == .locked || st == .inUse || st == .approachLocked) then some .held
  else if (s.pointsIn d).any s.hasOrder then some .busy
  else if s.deckTurnsIn d then some .busy
  else if s.vpc.runner.script != 0 && (s.scriptSet s.vpc.runner.script).contains d then some .busy
  else none

/-- READY or RUNNING. -/
def State.readyOrRunning (s : State) : Bool := s.mode == .ready || s.mode == .running

/-- A granted take (R62). -/
def takeDistrict (d desk : Nat) (s : State) : State :=
  raise (districtRecord d .taken desk 0) (s.setDistrict d { s.district d with releaseHolder := desk })

def ownDistrictTake (d origin : Byte) (s : State) : Decision :=
  if !s.readyOrRunning then answer .wrongMode s
  else match originOf origin with
  | .desk desk =>
    if !within 1 8 d.toNat then answer .badValue s
    else match takeRefusal d.toNat desk s with
    | some c => answer c s
    | none => effect .ok (takeDistrict d.toNat desk s)
  | _ => answer .badValue s

/-- DISTRICT_TAKE (R61). -/
def execDistrictTake (d origin : Byte) (s : State) : Out := serve 0x31#8 (ownDistrictTake d origin) s

/-! ## DISTRICT_GIVE_BACK (R63, R64) -/

/-- The point is detected in no lie. -/
def State.undetected (s : State) (p : Nat) : Bool :=
  match s.detected p with
  | .normal | .reverse => false
  | .moving | .contactFault | .unknown => true

/-- The refusals of DISTRICT_GIVE_BACK from case 3 on (R63). An origin that is neither AUTO nor a desk is refused like a
desk that does not hold the release. -/
def giveBackRefusal (d : Nat) (o : Origin) (s : State) : Option ResultCode :=
  let w := s.district d
  if !w.released then some .notSet
  else if o ≠ .auto ∧ o ≠ .desk w.releaseHolder then some .noAuthority
  else if (s.pointsIn d).any s.hasOrder || s.deckTurnsIn d then some .busy
  else if (s.pointsIn d).any s.undetected then some .pointsNotDetected
  else none

/-- A give-back: VPC may start a queued script, then DISTRICT, then the re-scan (R64). -/
def giveBackDistrict (d : Nat) (o : Origin) (s : State) : State :=
  let holder := (s.district d).releaseHolder
  let s := s.setDistrict d { s.district d with releaseHolder := 0 }
  ((s.post .startExam).post (.raise (districtRecord d .givenBack holder o.code))).triggerRescan

def ownDistrictGiveBack (d origin : Byte) (s : State) : Decision :=
  if !s.readyOrRunning then answer .wrongMode s
  else if !within 1 8 d.toNat || originOf origin == .visitor then answer .badValue s
  else match giveBackRefusal d.toNat (originOf origin) s with
  | some c => answer c s
  | none => effect .ok (giveBackDistrict d.toNat (originOf origin) s)

/-- DISTRICT_GIVE_BACK (R63). -/
def execDistrictGiveBack (d origin : Byte) (s : State) : Out := serve 0x32#8 (ownDistrictGiveBack d origin) s

/-! ## DISTRICT_STATUS (R65) -/

def districtReport (d : Nat) (s : State) : ReplyBody :=
  .district (s.district d) (s.districtRec d) ((s.pointsIn d).filter s.hasOrder).length
    ((s.pointsIn d).filter s.undetected).length

def ownDistrictStatus (d : Byte) (s : State) : Decision :=
  if !within 1 8 d.toNat then answer .badValue s else reports (districtReport d.toNat s) s

/-- DISTRICT_STATUS (R65). -/
def execDistrictStatus (d : Byte) (s : State) : Out := serve 0x33#8 (ownDistrictStatus d) s

end Sys2Proof.Machine
end

