-- ==== Sys2Proof/Machine/CmdField.lean ====
section
/-! DEFINITION. The commands of FLC (spec chapter 2): the exchange of the poll cycle and NODE_STATUS. -/

namespace Sys2Proof.Machine

/-- FIELD_FRAME_SENT (R21, R22). -/
def execFieldFrameSent (s : State) : Out := act openExchange s

/-- FIELD_REPLY_RECEIVED (R22): discarded where no exchange is open. -/
def execFieldReplyReceived (f : FieldFrame) (s : State) : Out :=
  actOn (fun s => s.flc.exchange) (fun e s => closeWith e f s) s

/-- REPLY_WINDOW_EXPIRED (R22). -/
def execReplyWindowExpired (s : State) : Out :=
  actOn (fun s => s.flc.exchange) (fun e s => closeExpired e (s.reach e.windowAt)) s

/-- FIELD_FRAME_DISCARDED (R22): a frame while no exchange is open changes nothing. -/
def execFieldFrameDiscarded (s : State) : Out := act (fun s => s) s

/-- The records of a table that are assigned to a node, each with its channel there, in rising channel number; records
on one channel in rising id (tables that no check has passed may have several). -/
def onChannels {α : Type} (t : Tab α) (node chan : α → Nat) (a n : Nat) : List (Nat × Nat) :=
  ((List.range n).map (· + 1)).flatMap fun c =>
    (t.filter fun e => node e.2 == a && chan e.2 == c).map fun e => (c, e.1)

/-- What NODE_STATUS carries (R30): every track piece, point and head assigned to the node. -/
def nodeReport (a : Nat) (s : State) : ReplyBody :=
  .node (s.nodeRec a).kind (if (s.nodeRec a).kind = .absent then {} else s.node a)
    ((onChannels s.tables.tracks (·.detNode) (·.detInput) a 16).map fun e => (e.1, s.occupancy e.2))
    ((onChannels s.tables.points (·.drvNode) (·.drvChan) a 8).map fun e => (e.1, s.detected e.2))
    ((onChannels s.tables.signals (·.headNode) (·.head) a 8).map fun e => (e.1, s.proving e.2))

def ownNodeStatus (a : Byte) (s : State) : Decision :=
  if !within 1 31 a.toNat then answer .badValue s else reports (nodeReport a.toNat s) s

/-- NODE_STATUS (R30). -/
def execNodeStatus (a : Byte) (s : State) : Out := serve 0x50#8 (ownNodeStatus a) s

end Sys2Proof.Machine
end

