-- ==== Sys2Proof/Machine/CmdLink.lean ====
section
/-! DEFINITION. The commands of HL (spec 11.1, 11.3): frames on the line, the event mask and the hold flag. -/

namespace Sys2Proof.Machine

/-- HOST_FRAME_DISCARDED (R173): no reply, no event, the receiver is HUNTING. -/
def execHostFrameDiscarded (s : State) : Out := act frameTaken s

/-- FRAME_GAP_TIMEOUT (R173). -/
def execFrameGapTimeout (s : State) : Out := act (fun s => s.setHl { s.hl with receiver := .hunting }) s

/-- REQUEST_LOST (R174): the frame is discarded; with no request in service there is none to lose. -/
def execRequestLost (s : State) : Out :=
  act (fun s =>
    if s.hl.inService.isSome then (frameTaken s).setHl { (frameTaken s).hl with requestLost := true } else s) s

/-- BAD_KIND_OR_LENGTH (R174 cases 1 and 2): the case that applies; none where the frame is good in both. -/
def badFrameCode (kind : Byte) (n : Nat) : Option ResultCode :=
  if !isRequestKind kind then some .badKind else if !lengthSuits kind n then some .badLength else none

/-- BAD_KIND_OR_LENGTH (R174). Form 0 of a TABLE_WRITE carries 3 bytes alone, so a longer TABLE_WRITE may be bad too. -/
def execBadKindOrLength (kind : Byte) (n : Nat) (s : State) : Out :=
  act (fun s =>
    match badFrameCode kind n with
    | some c => takeFrame kind (answer c) s
    | none => if kind = 0x04#8 ∧ 3 < n then takeFrame kind (answer .badLength) s else s) s

/-- REPLY_TRANSMIT (R175): a due reply is sent once the transmitter is idle, with the REQUEST_LOST flag as it stands. -/
def execReplyTransmit (s : State) : Out :=
  act (fun s =>
    match s.hl.tx, s.hl.reply with
    | .idle, some r => s.setHl { s.hl with tx := .reply r s.hl.requestLost, reply := none }
    | _, _ => s) s

/-- EVENT_TRANSMIT (R175). -/
def execEventTransmit (s : State) : Out :=
  act (fun s =>
    match s.hl.tx, s.hl.reply, s.hl.queue with
    | .idle, none, e :: rest => if s.hl.hold then s else s.setHl { s.hl with tx := .event e, queue := rest }
    | _, _, _ => s) s

/-- FRAME_TRANSMIT_DONE (R174): the end of a reply ends the request in service, and clears request_lost where that reply
carried the flag. -/
def execFrameTransmitDone (s : State) : Out :=
  act (fun s =>
    match s.hl.tx with
    | .idle => s
    | .event _ => s.setHl { s.hl with tx := .idle }
    | .reply _ lost =>
      s.setHl { s.hl with tx := .idle, inService := none, requestLost := s.hl.requestLost && !lost }) s

/-- The mask a request sets: bits 10 to 15 ignored, MODE and ALARMS kept (R176). -/
def maskOf (classes : BitVec 16) : BitVec 16 := (classes &&& 0x03FF#16) ||| 0x0003#16

def ownEventMask (classes : BitVec 16) (s : State) : Decision :=
  (s.setHl { s.hl with mask := maskOf classes }, { result := .ok, body := .eventClasses (maskOf classes) })

/-- EVENT_MASK (R176). -/
def execEventMask (classes : BitVec 16) (s : State) : Out := serve 0x10#8 (ownEventMask classes) s

def ownEventHold (s : State) : Decision := answer .ok (s.setHl { s.hl with hold := true })

/-- EVENT_HOLD (R175). -/
def execEventHold (s : State) : Out := serve 0x11#8 ownEventHold s

def ownEventResume (s : State) : Decision := answer .ok (s.setHl { s.hl with hold := false })

/-- EVENT_RESUME (R175). -/
def execEventResume (s : State) : Out := serve 0x12#8 ownEventResume s

end Sys2Proof.Machine
end

