-- ==== Sys2Proof/Machine/CmdModes.lean ====
section
/-! DEFINITION. The commands of LTS (spec 1.1, 11.4 to 11.6): the modes, the tables, the stored image, E-stop and reset. -/

namespace Sys2Proof.Machine

/-- COLD_START (R178). -/
def execColdStart (estop : Bool) (baud : BitVec 2) (boltIn : Bool) (s : State) : Out :=
  .next (coldStart estop baud boltIn s)

/-- RESET_N_ASSERTED (R178): every block is held at its cold-start values. -/
def execResetNAsserted (s : State) : Out := .next (resetAll s)

/-- An image read is in progress (R178, R185). -/
def State.loading (s : State) : Bool :=
  s.mode == .starting || (s.mode == .checking && s.lts.checking == some .reload)

/-- IMAGE_LOAD_DONE (R178, R185). -/
def execImageLoadDone (f : ImageFound) (s : State) : Out :=
  actOn (fun s => if s.loading then some () else none) (fun _ s => finishLoad f s) s

/-- COMMIT_CHECK_DONE (R179). -/
def execCommitCheckDone (s : State) : Out :=
  actOn (fun s => if s.mode = .checking ∧ s.lts.checking = some .commit then some () else none)
    (fun _ s => finishCommit s) s

/-- STORE_DONE (R184). -/
def execStoreDone (acknowledged : Bool) (s : State) : Out :=
  actOn (fun s => s.lts.storing) (fun t s => finishStore t acknowledged s) s

/-- The taken level of the E-stop input changes (R181). -/
def assertEstop (s : State) : State :=
  let s := s.setLts { s.lts with estop := true }
  if s.railActive then enterHalted .estop s else deriveAll false s

/-- ESTOP_ASSERTED (R181). -/
def execEstopAsserted (s : State) : Out :=
  actOn (fun s => if s.lts.estop then none else some ()) (fun _ s => assertEstop s) s

/-- ESTOP_RELEASED (R181): no mode changes. -/
def execEstopReleased (s : State) : Out :=
  actOn (fun s => if s.lts.estop then some () else none)
    (fun _ s => deriveAll false (s.setLts { s.lts with estop := false })) s

/-- STOPPING_END (R180). -/
def execStoppingEnd (s : State) : Out :=
  actOn (fun s => if s.stoppingOver then some () else none) (fun _ s => endStopping s) s

/-! ## Queries (R183) -/

/-- The figures of the capacity table, row by row (spec, Capacities). -/
def capacities : List (List Nat) :=
  [[128], [64], [64], [192], [8], [8, 0], [31], [16], [8], [8], [16, 16, 1], [1], [32, 1, 6], [6], [1, 24], [4], [13],
   [12], [1, 12], [0, 2], [0, 3], [4], [16], [1], [1, 4, 2], [64], [16], [8], [1, 8], [8, 40], [8], [12], [3], [1, 7, 3]]

def ownIdentify (s : State) : Decision := reports (.identification 0x0128 1 capacities) s

/-- IDENTIFY (R183). -/
def execIdentify (s : State) : Out := serve 0x01#8 ownIdentify s

def ownGetMode (s : State) : Decision :=
  reports (.modeInfo s.mode s.lts.estop s.lts.storing.isSome s.lts.lastCheck s.hl.hold s.hl.queue.length s.hl.dropped) s

/-- GET_MODE (R183). -/
def execGetMode (s : State) : Out := serve 0x02#8 ownGetMode s

/-! ## Configuring (R2, R3, R179) -/

def ownConfigure (s : State) : Decision :=
  match s.mode with
  | .unconfigured => effect .ok (enterMode .configuring .request s)
  | .ready => effect .ok (stopLoop (enterMode .configuring .request s))
  | _ => answer .wrongMode s

/-- CONFIGURE (R179). -/
def execConfigure (s : State) : Out := serve 0x03#8 ownConfigure s

/-- The tables become `t`. -/
def setTables (t : Tables) (s : State) : State := s.setLts { s.lts with tables := t }

def ownTableWrite (table index : Byte) (form : WriteForm) (s : State) : Decision :=
  if s.mode ≠ .configuring then answer .wrongMode s
  else if !addressesRecord table.toNat index.toNat then answer .badValue s
  else match form with
  | .clear => answer .ok (setTables (s.tables.clearRecord table.toNat index.toNat) s)
  | .misfit => answer .badValue s
  | .record r =>
    match s.tables.writeRecord table.toNat index.toNat r with
    | some t => answer .ok (setTables t s)
    | none => answer .badValue s

/-- TABLE_WRITE (R2, R179). -/
def execTableWrite (table index : Byte) (form : WriteForm) (s : State) : Out :=
  serve 0x04#8 (ownTableWrite table index form) s

def ownTableRead (table index : Byte) (s : State) : Decision :=
  if !addressesRecord table.toNat index.toNat then answer .badValue s
  else match s.tables.readRecord table.toNat index.toNat with
  | some r => reports (.stored r) s
  | none => answer .notFound s

/-- TABLE_READ (R3). -/
def execTableRead (table index : Byte) (s : State) : Out := serve 0x05#8 (ownTableRead table index) s

/-- Enters CHECKING for a COMMIT or a RELOAD. -/
def enterChecking (c : CheckSource) (s : State) : State :=
  let s := enterMode .checking .request s
  s.setLts { s.lts with checking := some c }

def ownCommit (s : State) : Decision :=
  if s.mode = .configuring then effect .accepted (enterChecking .commit s) else answer .wrongMode s

/-- COMMIT (R179). -/
def execCommit (s : State) : Out := serve 0x06#8 ownCommit s

def ownStore (s : State) : Decision :=
  if s.mode ≠ .ready ∧ s.mode ≠ .running then answer .wrongMode s
  else if s.lts.storing.isSome then answer .busy s
  else effect .accepted { s.setLts { s.lts with storing := some s.tables } with serial := .damaged }

/-- STORE (R184). Until it ends well the memory holds no whole image. -/
def execStore (s : State) : Out := serve 0x07#8 ownStore s

def ownReload (s : State) : Decision :=
  match s.mode with
  | .unconfigured | .configuring =>
    if s.lts.storing.isSome then answer .busy s else effect .accepted (enterChecking .reload s)
  | .ready =>
    if s.lts.storing.isSome then answer .busy s else effect .accepted (stopLoop (enterChecking .reload s))
  | _ => answer .wrongMode s

/-- RELOAD (R185). -/
def execReload (s : State) : Out := serve 0x08#8 ownReload s

/-! ## Running (R180 to R182) -/

def ownStart (s : State) : Decision :=
  if s.mode ≠ .ready then answer .wrongMode s
  else if s.lts.estop then answer .estop s
  else effect .ok (deriveAll true (enterMode .running .request s))

/-- START (R180). -/
def execStart (s : State) : Out := serve 0x09#8 ownStart s

def ownStop (s : State) : Decision :=
  match s.mode with
  | .running => effect .accepted (enterStopping s)
  | .stopping => answer .ok s
  | _ => answer .wrongMode s

/-- STOP (R180). -/
def execStop (s : State) : Out := serve 0x0A#8 ownStop s

def ownHalt (s : State) : Decision :=
  match s.mode with
  | .running | .stopping => effect .ok (enterHalted .request s)
  | .halted => answer .ok s
  | _ => answer .wrongMode s

/-- HALT (R181). -/
def execHalt (s : State) : Out := serve 0x0B#8 ownHalt s

def ownRestart (s : State) : Decision :=
  match s.mode with
  | .ready | .running | .stopping => effect .ok (warmRestart s)
  | .halted => if s.lts.estop then answer .estop s else effect .ok (warmRestart s)
  | _ => answer .wrongMode s

/-- RESTART (R182). -/
def execRestart (s : State) : Out := serve 0x0C#8 ownRestart s

end Sys2Proof.Machine
end

