-- ==== Sys2Proof/Machine/CmdPoints.lean ====
section
/-! DEFINITION. The commands of PTS (spec chapter 3). -/

namespace Sys2Proof.Machine

def ownPointThrow (point lie origin : Byte) (s : State) : Decision :=
  decided (requestThrow point.toNat (lieOf lie) (originOf origin) s)

/-- POINT_THROW (R51). -/
def execPointThrow (point lie origin : Byte) (s : State) : Out := serve 0x28#8 (ownPointThrow point lie origin) s

/-- What POINT_STATUS carries (R52). -/
def pointReport (p : Nat) (s : State) : ReplyBody :=
  let w := s.point p
  .point w.commanded (s.detected p) (s.holders p) w.failed w.redriveUsed w.order (positionOf p s.pts.queue)

def ownPointStatus (point : Byte) (s : State) : Decision :=
  if !within 1 64 point.toNat then answer .badValue s
  else match s.pointRec point.toNat with
  | none => answer .notFound s
  | some _ => reports (pointReport point.toNat s) s

/-- POINT_STATUS (R52). -/
def execPointStatus (point : Byte) (s : State) : Out := serve 0x29#8 (ownPointStatus point) s

/-- limit_at of an order in flight (R44 to R46). -/
def State.limitDue (s : State) (p : Nat) : Option Nat :=
  match s.pointRec p with
  | none => none
  | some _ => (s.point p).order.bind fun o => if o.phase = .waiting then none else o.limitAt

/-- The cause of a failure on the timer (R48). -/
def State.limitCause (s : State) (p : Nat) : ThrowFailure :=
  match (s.point p).order with
  | some o => if o.phase = .sent then .noAck else .timeout
  | none => .timeout

/-- THROW_LIMIT_EXPIRED (R48). -/
def execThrowLimitExpired (p : Nat) (s : State) : Out :=
  actOn (fun s => s.limitDue p) (fun e s => failOrder p (s.limitCause p) (s.reach e)) s

/-- The release time of a slot (R45). -/
def State.releaseDue (s : State) (n : Nat) : Option Nat :=
  match s.slot n with
  | .busy _ t => t
  | .free => none

/-- SLOT_RELEASE (R45, R43). -/
def execSlotRelease (n : Nat) (s : State) : Out :=
  actOn (fun s => s.releaseDue n) (fun e s => look ((s.reach e).setSlot n .free)) s

/-- THROW_ORDER_TAKEN (R43): PTS looks. -/
def execThrowOrderTaken (s : State) : Out :=
  actOn (fun s => if s.freeSlot.isSome ∧ s.eligibleOrder.isSome then some () else none) (fun _ s => look s) s

end Sys2Proof.Machine
end

