-- ==== Sys2Proof/Machine/CmdRoutes.lean ====
section
/-! DEFINITION. The commands of RIE (spec chapters 5 and 6). -/

namespace Sys2Proof.Machine

/-- A reply with its reason byte (11.2). -/
def routeDecision (r : State × RouteReply) : Decision :=
  let s := if r.2.code.takes then finish r.1 else r.1
  (s, { result := r.2.code, body := match r.2.reason with
      | some c => .reason c
      | none => .plain })

/-- options: bit 0 WAIT, bit 1 FLEET (11.8); the other bits are ignored (log 11). -/
def ownRouteSet (route origin options : Byte) (limit : BitVec 16) (s : State) : Decision :=
  routeDecision (requestRoute route.toNat (originOf origin) (options.getLsbD 0) (options.getLsbD 1) limit.toNat s)

/-- ROUTE_SET (R69, R71). -/
def execRouteSet (route origin options : Byte) (limit : BitVec 16) (s : State) : Out :=
  serve 0x20#8 (ownRouteSet route origin options limit) s

def ownRouteCancel (route origin : Byte) (s : State) : Decision :=
  decided (requestCancel route.toNat (originOf origin) s)

/-- ROUTE_CANCEL (R84). -/
def execRouteCancel (route origin : Byte) (s : State) : Out := serve 0x21#8 (ownRouteCancel route origin) s

def ownRouteForce (route origin : Byte) (s : State) : Decision :=
  decided (requestForce route.toNat (originOf origin) s)

/-- ROUTE_FORCE_RELEASE (R85). -/
def execRouteForceRelease (route origin : Byte) (s : State) : Out := serve 0x22#8 (ownRouteForce route origin) s

/-- Time left of a hold, in units of the time base. -/
def holdLeft (now : Nat) : HoldTime → Nat
  | .absent => 0
  | .runs e => e - now
  | .frozen l => l

/-- A time left in whole tenths of a second (log 14). -/
def inTenths (t : Nat) : Nat := t / 100000

/-- What ROUTE_STATUS carries (R87). -/
def routeReport (q : Nat) (s : State) : ReplyBody :=
  let w := s.route q
  .route q w (inTenths (holdLeft s.now w.hold)) (inTenths (s.timeLeft w.approachTimer))
    (inTenths (s.timeLeft w.overlapTimer)) (positionOf q s.rie.heldQueue)
    (if w.context = 0 then {} else s.context w.context)

def ownRouteStatus (route : Byte) (s : State) : Decision :=
  if !within 1 192 route.toNat then answer .badValue s
  else match s.routeRec route.toNat with
  | none => answer .notFound s
  | some _ => reports (routeReport route.toNat s) s

/-- ROUTE_STATUS (R87). -/
def execRouteStatus (route : Byte) (s : State) : Out := serve 0x23#8 (ownRouteStatus route) s

/-- The state of a holding route; none for holder 0. -/
def State.holderState (s : State) (q : Nat) : Option RouteState := if q = 0 then none else some (s.route q).state

/-- What SECTION_STATUS carries (R87). -/
def trackReport (t : Nat) (s : State) : ReplyBody :=
  let l := s.lock t
  .track (s.occupancy t) l (s.holderState l.holder) (if l.holder = 0 then 0 else s.pathPosition l.holder t)

def ownSectionStatus (track : Byte) (s : State) : Decision :=
  if !within 1 128 track.toNat then answer .badValue s
  else match s.trackRec track.toNat with
  | none => answer .notFound s
  | some _ => reports (trackReport track.toNat s) s

/-- SECTION_STATUS (R87). -/
def execSectionStatus (track : Byte) (s : State) : Out := serve 0x24#8 (ownSectionStatus track) s

/-! ## Timers and internal steps -/

/-- The hold of a HELD route that runs to a time (R74). -/
def State.holdDue (s : State) (q : Nat) : Option Nat :=
  match (s.route q).state, (s.route q).hold with
  | .held, .runs e => some e
  | _, _ => none

/-- HELD_EXPIRY (R74). -/
def execHeldExpiry (q : Nat) (s : State) : Out :=
  actOn (fun s => s.holdDue q) (fun e s => expireHeld q (s.reach e)) s

/-- The approach timer of an APPROACH_LOCKED route (R103). -/
def State.approachDue (s : State) (q : Nat) : Option Nat :=
  match (s.route q).state with
  | .approachLocked => (s.route q).approachTimer
  | _ => none

/-- APPROACH_TIMER_EXPIRED (R103). -/
def execApproachTimerExpired (q : Nat) (s : State) : Out :=
  actOn (fun s => s.approachDue q) (fun e s => expireApproach q (s.reach e)) s

/-- OVERLAP_TIMER_EXPIRED (R105). -/
def execOverlapTimerExpired (q : Nat) (s : State) : Out :=
  actOn (fun s => (s.route q).overlapTimer) (fun e s => expireOverlap q (s.reach e)) s

/-- HELD_ROUTE_RESCAN (R73): the re-scan itself, in RUNNING and STOPPING. -/
def execHeldRouteRescan (s : State) : Out :=
  actOn (fun s => if s.railActive then some () else none) (fun _ s => rescan { s with rescanDue := false }) s

/-- RESTORE_UNWIND (R82): the context has drained. -/
def execRestoreUnwind (n : Nat) (s : State) : Out :=
  actOn (fun s => if s.railActive ∧ (s.context n).phase = .draining ∧ !(s.context n).anyPending then some () else none)
    (fun _ s => unwind n s) s

end Sys2Proof.Machine
end

