-- ==== Sys2Proof/Machine/CmdSignals.lean ====
section
/-! DEFINITION. The commands of SAU (spec 6.4). -/

namespace Sys2Proof.Machine

/-- The refusals of SIGNAL_REMINDER (R97). -/
def reminderRefusal (x : Nat) (setting : Option Bool) (o : Origin) (s : State) : Option ResultCode :=
  if !s.inWork then some .wrongMode
  else if !within 1 64 x || setting.isNone || !o.isHost then some .badValue
  else match s.signalRec x with
  | none => some .notFound
  | some r => (s.districtCheck o r.district).refusal

/-- The reminder takes a setting (R97 cases 5 and 6). -/
def setReminder (x : Nat) (on : Bool) (s : State) : Decision :=
  if (s.signal x).reminder = on then answer .ok s
  else effect .ok (deriveAll false (s.setSignal x { s.signal x with reminder := on }))

def ownSignalReminder (x setting origin : Byte) (s : State) : Decision :=
  match reminderRefusal x.toNat (yesNoOf setting) (originOf origin) s, yesNoOf setting with
  | some c, _ => answer c s
  | none, some on => setReminder x.toNat on s
  | none, none => answer .badValue s

/-- SIGNAL_REMINDER (R97). -/
def execSignalReminder (x setting origin : Byte) (s : State) : Out :=
  serve 0x2C#8 (ownSignalReminder x setting origin) s

/-- What SIGNAL_STATUS carries (R98). -/
def signalReport (x : Nat) (r : SignalRec) (s : State) : ReplyBody :=
  let q := s.entryHolder x
  .signal (s.signal x) (s.proving x) (s.node r.headNode).state q (if q = 0 then none else some (s.route q).state)

def ownSignalStatus (x : Byte) (s : State) : Decision :=
  if !within 1 64 x.toNat then answer .badValue s
  else match s.signalRec x.toNat with
  | none => answer .notFound s
  | some r => reports (signalReport x.toNat r s) s

/-- SIGNAL_STATUS (R98). -/
def execSignalStatus (x : Byte) (s : State) : Out := serve 0x2D#8 (ownSignalStatus x) s

end Sys2Proof.Machine
end

