-- ==== Sys2Proof/Machine/CmdTable.lean ====
section
/-! DEFINITION. The commands of TTC (spec chapter 8): requests, steps, the index, the bolt and the timers. -/

namespace Sys2Proof.Machine

def ownTableHome (origin : Byte) (s : State) : Decision := decided (requestHome (originOf origin) s)

/-- TABLE_HOME (R133). -/
def execTableHome (origin : Byte) (s : State) : Out := serve 0x40#8 (ownTableHome origin) s

def ownTableMove (road deckEnd origin : Byte) (s : State) : Decision :=
  decided (requestMove (originOf origin) road.toNat (deckEndOf deckEnd) s)

/-- TABLE_MOVE (R135). -/
def execTableMove (road deckEnd origin : Byte) (s : State) : Out := serve 0x41#8 (ownTableMove road deckEnd origin) s

def ownTableStop (origin : Byte) (s : State) : Decision := decided (requestStop (originOf origin) s)

/-- TABLE_STOP (R139). -/
def execTableStop (origin : Byte) (s : State) : Out := serve 0x42#8 (ownTableStop origin) s

def ownTableHalt (origin : Byte) (s : State) : Decision := decided (requestHalt (originOf origin) s)

/-- TABLE_HALT (R140). -/
def execTableHalt (origin : Byte) (s : State) : Out := serve 0x43#8 (ownTableHalt origin) s

/-- What TABLE_STATUS carries (R143). -/
def tableReport (s : State) : ReplyBody :=
  let t := s.ttc
  .table t.state t.homed t.p t.a t.face1 t.face2 t.deckOwner
    (if t.deckOwner = 0 then none else some (s.route t.deckOwner).state)
    (t.homePhase.map fun h => (h, t.attempts)) t.move t.boltEngage s.boltIn t.lastFault s.deckOccupancy s.deckAnswer

def ownTableStatus (s : State) : Decision :=
  if s.tables.turntable.isNone then answer .notFound s else reports (tableReport s) s

/-- TABLE_STATUS (R143). -/
def execTableStatus (s : State) : Out := serve 0x44#8 ownTableStatus s

/-! ## Steps, edges and timers -/

/-- The layout has a turntable. -/
def State.hasTable (s : State) : Bool := s.tables.turntable.isSome

/-- When the next step of a state is due. -/
def State.stepDue (s : State) (st : TtcState) : Option Nat :=
  if s.hasTable ∧ s.ttc.state = st then s.ttc.stepAt else none

/-- HOMING_STEP (R134). -/
def execHomingStep (s : State) : Out :=
  actOn (fun s => s.stepDue .homing) (fun e s => actTtc (fun t _ r now => t.homingStep r now) (s.reach e)) s

/-- MOVE_STEP (R150). -/
def execMoveStep (s : State) : Out :=
  actOn (fun s => s.stepDue .moving) (fun e s => actTtc Ttc.issueStep (s.reach e)) s

/-- INDEX_EDGE (R127, R134, R141). -/
def execIndexEdge (s : State) : Out :=
  actOn (fun s => if s.hasTable ∧ s.loopRuns then some () else none) (fun _ s => actTtc Ttc.indexEdge s) s

/-- BOLT_IN_CHANGE (R128): the level is kept as the pin's; TTC takes it where a bolt is configured. -/
def takeBolt (engaged : Bool) (s : State) : State :=
  if s.loopRuns && s.tables.turntable.any (·.boltPresent) then
    finish (actTtc (fun t tab r now => t.boltChange tab r now engaged) s)
  else s.setTtc { s.ttc with boltLevel := engaged }

/-- BOLT_IN_CHANGE (R128). -/
def execBoltInChange (engaged : Bool) (s : State) : Out :=
  act (fun s => if s.ttc.boltLevel = engaged then s else takeBolt engaged s) s

/-- BOLT_TIMER_EXPIRED (R142). -/
def execBoltTimerExpired (s : State) : Out :=
  actOn (fun s => if s.hasTable then s.ttc.boltAt else none)
    (fun e s => actTtc (fun t _ _ _ => t.boltExpired) (s.reach e)) s

/-- The settle timer of SETTLING. -/
def State.settleDue (s : State) : Option Nat :=
  if s.hasTable ∧ s.ttc.state = .settling then s.ttc.settleAt else none

/-- SETTLE_EXPIRED (R137). -/
def execSettleExpired (s : State) : Out :=
  actOn (fun s => s.settleDue) (fun e s => actTtc Ttc.afterSettling (s.reach e)) s

end Sys2Proof.Machine
end

