-- ==== Sys2Proof/Machine/CmdTrains.lean ====
section
/-! DEFINITION. The commands of TD (spec 7.2). -/

namespace Sys2Proof.Machine

/-- The fields of a TRAIN_INTERPOSE that pass R111 case 2. -/
def interposeOf (code : List Byte) (track direction cls shown origin : Byte) : Option Interpose := do
  let code ← trainCodeOf code
  let direction ← trackEndOf direction
  let cls ← trainClassOf cls
  let shown ← yesNoOf shown
  if within 1 128 track.toNat && (originOf origin).isHost then
    some { code, track := track.toNat, direction, cls, shown, origin := originOf origin }
  else none

def ownTrainInterpose (code : List Byte) (track direction cls shown origin : Byte) (s : State) : Decision :=
  if !s.inWork then answer .wrongMode s
  else match interposeOf code track direction cls shown origin with
  | none => answer .badValue s
  | some i =>
    match s.placeInterpose i with
    | .error c => answer c s
    | .ok n => (finish (interpose n i s), { result := .ok, body := .recordPosition n })

/-- TRAIN_INTERPOSE (R111, R112). -/
def execTrainInterpose (code : List Byte) (track direction cls shown origin : Byte) (s : State) : Out :=
  serve 0x38#8 (ownTrainInterpose code track direction cls shown origin) s

def ownTrainCancel (code : List Byte) (origin : Byte) (s : State) : Decision :=
  if !s.inWork then answer .wrongMode s
  else match trainCodeOf code with
  | none => answer .badValue s
  | some c =>
    if !(originOf origin).isHost then answer .badValue s
    else match s.judgeTrainCancel c (originOf origin) with
    | .error e => answer e s
    | .ok n => effect .ok (removeTrain n s)

/-- TRAIN_CANCEL (R113). -/
def execTrainCancel (code : List Byte) (origin : Byte) (s : State) : Out :=
  serve 0x39#8 (ownTrainCancel code origin) s

/-- Position 0: every record's position, code and state (R114). -/
def trainListReport (s : State) : ReplyBody := .trainList (s.td.trains.map fun e => (e.1, e.2.code, e.2.isLost))

/-- One record, with the occupancy of each footprint entry (R114). -/
def trainReport (n : Nat) (w : TrainWork) (s : State) : ReplyBody :=
  .train n w (w.footprint.map fun e => s.occupancy e.1)

def answerTrain (n : Option Nat) (s : State) : Decision :=
  match n with
  | none => answer .notFound s
  | some n =>
    match s.td.trains.get? n with
    | some w => reports (trainReport n w s) s
    | none => answer .notFound s

def ownTrainStatus (sel : TrainSelector) (s : State) : Decision :=
  match sel with
  | .position n =>
    if 32 < n.toNat then answer .badValue s
    else if n.toNat = 0 then reports (trainListReport s) s
    else answerTrain (some n.toNat) s
  | .code c =>
    match trainCodeOf c with
    | none => answer .badValue s
    | some k => answerTrain (s.trainCoded k) s

/-- TRAIN_STATUS (R114). -/
def execTrainStatus (sel : TrainSelector) (s : State) : Out := serve 0x3A#8 (ownTrainStatus sel) s

end Sys2Proof.Machine
end

