-- ==== Sys2Proof/Machine/CmdVisitor.lean ====
section
/-! DEFINITION. The commands of VPC (spec chapter 10). -/

namespace Sys2Proof.Machine

/-! ## The enable (R155, R156) -/

def ownVisitorEnable (setting origin : Byte) (s : State) : Decision :=
  if !s.inWork then answer .wrongMode s
  else match yesNoOf setting with
  | none => answer .badValue s
  | some on =>
    if originOf origin ≠ .auto then answer .noAuthority s
    else if s.vpc.enable = on then answer .ok s
    else effect .ok (setEnable on s)

/-- VISITOR_ENABLE (R155). -/
def execVisitorEnable (setting origin : Byte) (s : State) : Out := serve 0x48#8 (ownVisitorEnable setting origin) s

/-- visitor_at_start takes a value (R156). -/
def storeEnable (on : Bool) (s : State) : State :=
  s.setLts { s.lts with tables := { s.tables with general := { s.general with visitorAtStart := on } } }

def ownVisitorDefault (setting origin : Byte) (s : State) : Decision :=
  match yesNoOf setting with
  | none => answer .badValue s
  | some on =>
    if originOf origin ≠ .auto then answer .noAuthority s
    else effect .ok (if on then setEnable true (storeEnable true s) else storeEnable false s)

/-- VISITOR_DEFAULT (R156). -/
def execVisitorDefault (setting origin : Byte) (s : State) : Out := serve 0x49#8 (ownVisitorDefault setting origin) s

/-- What VISITOR_STATUS carries (R171). -/
def visitorReport (s : State) : ReplyBody :=
  let v := s.vpc
  let upTo (n : Nat) := (List.range n).map (· + 1)
  .visitor v.enable s.general.visitorAtStart ((upTo 16).map fun b => v.lamps.getD b .off)
    (v.queue.map fun e => (e.button, e.script, e.expiresAt - s.now)) v.runner (s.timeLeft v.runner.stepTimer)
    (s.timeLeft v.runner.runtimeAt) v.arrival v.lastAbort ((upTo 16).map fun k => s.timeLeft (v.coolDowns.get? k))
    v.rotation v.cursor (v.shown.map fun e => (e.1, e.2 - s.now)) v.line

def ownVisitorStatus (s : State) : Decision := reports (visitorReport s) s

/-- VISITOR_STATUS (R171). -/
def execVisitorStatus (s : State) : Out := serve 0x4A#8 ownVisitorStatus s

/-! ## The message line (R168, R170) -/

def ownMessagePut (slot : Byte) (text : List Byte) (s : State) : Decision :=
  if !within 1 8 slot.toNat then answer .badValue s
  else answer .ok (s.setVpc (s.vpc.putText slot.toNat (messageText text) s.now s.general.dwell))

/-- MESSAGE_PUT (R168): taken from any origin. -/
def execMessagePut (slot _origin : Byte) (text : List Byte) (s : State) : Out := serve 0x4B#8 (ownMessagePut slot text) s

def ownRotationSet (slots : List Byte) (s : State) : Decision :=
  let l := slots.map (·.toNat)
  if 8 < l.length ∨ !l.all (within 1 8) then answer .badValue s
  else answer .ok (s.setVpc (s.vpc.setRotation l s.now s.general.dwell))

/-- ROTATION_SET (R170): taken from any origin. -/
def execRotationSet (_origin : Byte) (slots : List Byte) (s : State) : Out := serve 0x4C#8 (ownRotationSet slots) s

/-! ## The queue, the runner and the board in time -/

/-- SCRIPT_START (R160). -/
def execScriptStart (s : State) : Out :=
  actOn (fun s => s.startable) (fun _ s => startExam s) s

/-- The queue entry of a button. -/
def State.entryOf (s : State) (b : Nat) : Option VisitorEntry := s.vpc.queue.find? fun e => e.button == b

/-- VISITOR_WAIT_EXPIRED (R159). -/
def execVisitorWaitExpired (b : Nat) (s : State) : Out :=
  actOn (fun s => s.entryOf b) (fun e s =>
    let s := s.reach e.expiresAt
    raise (visitorRecord e.script .expired b 0) (s.setVpc { s.vpc with queue := s.vpc.queue.filter (· != e) })) s

/-- RUNTIME_EXPIRED (R161). -/
def execRuntimeExpired (s : State) : Out :=
  actOn (fun s => if s.vpc.runner.script = 0 then none else s.vpc.runner.runtimeAt)
    (fun e s => abortScript .runtime .none (s.reach e)) s

/-- STEP_TIMER_EXPIRED (R164, R165). -/
def execStepTimerExpired (s : State) : Out :=
  actOn (fun s => s.vpc.runner.stepTimer) (fun e s => stepTimeUp (s.reach e)) s

/-- COOL_DOWN_EXPIRED (R166). -/
def execCoolDownExpired (k : Nat) (s : State) : Out :=
  actOn (fun s => s.vpc.coolDowns.get? k) (fun e s =>
    let s := s.reach e
    s.setVpc { s.vpc with coolDowns := s.vpc.coolDowns.erase k }) s

/-- DWELL_EXPIRED (R169). -/
def execDwellExpired (s : State) : Out :=
  actOn (fun s => s.vpc.dwellAt) (fun e s =>
    let s := s.reach e
    s.setVpc (s.vpc.advance s.now s.general.dwell)) s

/-- OVERRIDE_EXPIRED (R169). -/
def execOverrideExpired (s : State) : Out :=
  actOn (fun s => s.vpc.shown) (fun e s =>
    let s := s.reach e.2
    s.setVpc (s.vpc.endShow s.now s.general.dwell)) s

end Sys2Proof.Machine
end

