-- ==== Sys2Proof/Machine/CmdBytes.lean ====
section
/-! DEFINITION. HOST_BYTE_RECEIVED (R173): the receiver, byte by byte, and the request a completed good frame makes. -/

namespace Sys2Proof.Machine

/-- The owner's decision on a request; `none` for a command that is no request of the host. -/
def ownerOf (i : Instr) : Option (State → Decision) :=
  match i with
  | .identify => some ownIdentify
  | .getMode => some ownGetMode
  | .configure => some ownConfigure
  | .tableWrite t x f => some (ownTableWrite t x f)
  | .tableRead t x => some (ownTableRead t x)
  | .commit => some ownCommit
  | .store => some ownStore
  | .reload => some ownReload
  | .start => some ownStart
  | .stop => some ownStop
  | .halt => some ownHalt
  | .restart => some ownRestart
  | .eventMask c => some (ownEventMask c)
  | .eventHold => some ownEventHold
  | .eventResume => some ownEventResume
  | .routeSet q o p l => some (ownRouteSet q o p l)
  | .routeCancel q o => some (ownRouteCancel q o)
  | .routeForceRelease q o => some (ownRouteForce q o)
  | .routeStatus q => some (ownRouteStatus q)
  | .sectionStatus t => some (ownSectionStatus t)
  | .pointThrow p l o => some (ownPointThrow p l o)
  | .pointStatus p => some (ownPointStatus p)
  | .signalReminder x b o => some (ownSignalReminder x b o)
  | .signalStatus x => some (ownSignalStatus x)
  | .districtAssign d w sh c o => some (ownDistrictAssign d w sh c o)
  | .districtTake d o => some (ownDistrictTake d o)
  | .districtGiveBack d o => some (ownDistrictGiveBack d o)
  | .districtStatus d => some (ownDistrictStatus d)
  | .trainInterpose c t d k sh o => some (ownTrainInterpose c t d k sh o)
  | .trainCancel c o => some (ownTrainCancel c o)
  | .trainStatus x => some (ownTrainStatus x)
  | .tableHome o => some (ownTableHome o)
  | .tableMove r e o => some (ownTableMove r e o)
  | .tableStop o => some (ownTableStop o)
  | .tableHalt o => some (ownTableHalt o)
  | .tableStatus => some ownTableStatus
  | .visitorEnable b o => some (ownVisitorEnable b o)
  | .visitorDefault b o => some (ownVisitorDefault b o)
  | .visitorStatus => some ownVisitorStatus
  | .messagePut n _ t => some (ownMessagePut n t)
  | .rotationSet _ l => some (ownRotationSet l)
  | .nodeStatus a => some (ownNodeStatus a)
  | .coldStart _ _ _ | .imageLoadDone _ | .commitCheckDone | .storeDone _ | .estopAsserted | .estopReleased
  | .stoppingEnd | .hostFrameDiscarded | .frameGapTimeout | .requestLost | .badKindOrLength _ _ | .replyTransmit
  | .eventTransmit | .frameTransmitDone | .fieldFrameSent | .fieldReplyReceived _ | .replyWindowExpired
  | .fieldFrameDiscarded | .throwLimitExpired _ | .slotRelease _ | .throwOrderTaken | .restoreUnwind _
  | .heldRouteRescan | .heldExpiry _ | .approachTimerExpired _ | .overlapTimerExpired _ | .homingStep | .moveStep
  | .indexEdge | .boltInChange _ | .boltTimerExpired | .settleExpired | .scriptStart | .visitorWaitExpired _
  | .runtimeExpired | .stepTimerExpired | .coolDownExpired _ | .dwellExpired | .overrideExpired
  | .hostByteReceived _ | .resetNAsserted => none

/-- A good frame is taken (R174). -/
def takeGoodFrame (kind : Byte) (body : List Byte) (s : State) : State :=
  match requestOf kind body with
  | .badKind => takeFrame kind (answer .badKind) s
  | .badLength => takeFrame kind (answer .badLength) s
  | .request i =>
    match ownerOf i with
    | some owner => takeRequest kind owner s
    | none => takeFrame kind (answer .badKind) s

/-- A frame whose bytes, from the length to the check, are `l` (R173). -/
def takeWhole (l : List Byte) (s : State) : State :=
  if frameGood l then
    match l with
    | _ :: kind :: rest => takeGoodFrame kind rest.dropLast s
    | _ => frameTaken s
  else frameTaken s

/-- The receiver takes one byte (R173). -/
def takeByte (b : Byte) (s : State) : State :=
  match s.hl.receiver with
  | .hunting => if b = startByte then s.setHl { s.hl with receiver := .inFrame [] } else s
  | .inFrame [] =>
    if b.toNat = 0 ∨ 125 < b.toNat then frameTaken s else s.setHl { s.hl with receiver := .inFrame [b] }
  | .inFrame (n :: rest) =>
    let l := n :: rest ++ [b]
    if l.length < n.toNat + 2 then s.setHl { s.hl with receiver := .inFrame l } else takeWhole l s

/-- HOST_BYTE_RECEIVED (R173). A byte that completes a good frame makes its request (log 4). -/
def execHostByteReceived (b : Byte) (s : State) : Out := act (takeByte b) s

end Sys2Proof.Machine
end

