-- ==== Sys2Proof/Machine/Dispatch.lean ====
section
/-! DEFINITION. `exec`: one arm per command, each a direct call of its meaning. -/

namespace Sys2Proof.Machine

def exec (i : Instr) (s : State) : Host.Outcome State Fault Refusal :=
  match i with
  | .coldStart estopAsserted baud boltIn => Sys2Proof.Machine.execColdStart estopAsserted baud boltIn s
  | .imageLoadDone found => Sys2Proof.Machine.execImageLoadDone found s
  | .commitCheckDone => Sys2Proof.Machine.execCommitCheckDone s
  | .storeDone acknowledged => Sys2Proof.Machine.execStoreDone acknowledged s
  | .estopAsserted => Sys2Proof.Machine.execEstopAsserted s
  | .estopReleased => Sys2Proof.Machine.execEstopReleased s
  | .stoppingEnd => Sys2Proof.Machine.execStoppingEnd s
  | .hostFrameDiscarded => Sys2Proof.Machine.execHostFrameDiscarded s
  | .frameGapTimeout => Sys2Proof.Machine.execFrameGapTimeout s
  | .requestLost => Sys2Proof.Machine.execRequestLost s
  | .badKindOrLength kind bodyLength => Sys2Proof.Machine.execBadKindOrLength kind bodyLength s
  | .replyTransmit => Sys2Proof.Machine.execReplyTransmit s
  | .eventTransmit => Sys2Proof.Machine.execEventTransmit s
  | .frameTransmitDone => Sys2Proof.Machine.execFrameTransmitDone s
  | .identify => Sys2Proof.Machine.execIdentify s
  | .getMode => Sys2Proof.Machine.execGetMode s
  | .configure => Sys2Proof.Machine.execConfigure s
  | .tableWrite table index form => Sys2Proof.Machine.execTableWrite table index form s
  | .tableRead table index => Sys2Proof.Machine.execTableRead table index s
  | .commit => Sys2Proof.Machine.execCommit s
  | .store => Sys2Proof.Machine.execStore s
  | .reload => Sys2Proof.Machine.execReload s
  | .start => Sys2Proof.Machine.execStart s
  | .stop => Sys2Proof.Machine.execStop s
  | .halt => Sys2Proof.Machine.execHalt s
  | .restart => Sys2Proof.Machine.execRestart s
  | .eventMask classes => Sys2Proof.Machine.execEventMask classes s
  | .eventHold => Sys2Proof.Machine.execEventHold s
  | .eventResume => Sys2Proof.Machine.execEventResume s
  | .routeSet route origin options holdLimit => Sys2Proof.Machine.execRouteSet route origin options holdLimit s
  | .routeCancel route origin => Sys2Proof.Machine.execRouteCancel route origin s
  | .routeForceRelease route origin => Sys2Proof.Machine.execRouteForceRelease route origin s
  | .routeStatus route => Sys2Proof.Machine.execRouteStatus route s
  | .sectionStatus track => Sys2Proof.Machine.execSectionStatus track s
  | .pointThrow point lie origin => Sys2Proof.Machine.execPointThrow point lie origin s
  | .pointStatus point => Sys2Proof.Machine.execPointStatus point s
  | .signalReminder signal setting origin => Sys2Proof.Machine.execSignalReminder signal setting origin s
  | .signalStatus signal => Sys2Proof.Machine.execSignalStatus signal s
  | .districtAssign district owner shared visitorClass origin => Sys2Proof.Machine.execDistrictAssign district owner shared visitorClass origin s
  | .districtTake district origin => Sys2Proof.Machine.execDistrictTake district origin s
  | .districtGiveBack district origin => Sys2Proof.Machine.execDistrictGiveBack district origin s
  | .districtStatus district => Sys2Proof.Machine.execDistrictStatus district s
  | .trainInterpose code track direction cls shown origin => Sys2Proof.Machine.execTrainInterpose code track direction cls shown origin s
  | .trainCancel code origin => Sys2Proof.Machine.execTrainCancel code origin s
  | .trainStatus selector => Sys2Proof.Machine.execTrainStatus selector s
  | .tableHome origin => Sys2Proof.Machine.execTableHome origin s
  | .tableMove road deckEnd origin => Sys2Proof.Machine.execTableMove road deckEnd origin s
  | .tableStop origin => Sys2Proof.Machine.execTableStop origin s
  | .tableHalt origin => Sys2Proof.Machine.execTableHalt origin s
  | .tableStatus => Sys2Proof.Machine.execTableStatus s
  | .visitorEnable setting origin => Sys2Proof.Machine.execVisitorEnable setting origin s
  | .visitorDefault setting origin => Sys2Proof.Machine.execVisitorDefault setting origin s
  | .visitorStatus => Sys2Proof.Machine.execVisitorStatus s
  | .messagePut slot origin text => Sys2Proof.Machine.execMessagePut slot origin text s
  | .rotationSet origin slots => Sys2Proof.Machine.execRotationSet origin slots s
  | .nodeStatus address => Sys2Proof.Machine.execNodeStatus address s
  | .fieldFrameSent => Sys2Proof.Machine.execFieldFrameSent s
  | .fieldReplyReceived frame => Sys2Proof.Machine.execFieldReplyReceived frame s
  | .replyWindowExpired => Sys2Proof.Machine.execReplyWindowExpired s
  | .fieldFrameDiscarded => Sys2Proof.Machine.execFieldFrameDiscarded s
  | .throwLimitExpired point => Sys2Proof.Machine.execThrowLimitExpired point s
  | .slotRelease slot => Sys2Proof.Machine.execSlotRelease slot s
  | .throwOrderTaken => Sys2Proof.Machine.execThrowOrderTaken s
  | .restoreUnwind context => Sys2Proof.Machine.execRestoreUnwind context s
  | .heldRouteRescan => Sys2Proof.Machine.execHeldRouteRescan s
  | .heldExpiry route => Sys2Proof.Machine.execHeldExpiry route s
  | .approachTimerExpired route => Sys2Proof.Machine.execApproachTimerExpired route s
  | .overlapTimerExpired route => Sys2Proof.Machine.execOverlapTimerExpired route s
  | .homingStep => Sys2Proof.Machine.execHomingStep s
  | .moveStep => Sys2Proof.Machine.execMoveStep s
  | .indexEdge => Sys2Proof.Machine.execIndexEdge s
  | .boltInChange engaged => Sys2Proof.Machine.execBoltInChange engaged s
  | .boltTimerExpired => Sys2Proof.Machine.execBoltTimerExpired s
  | .settleExpired => Sys2Proof.Machine.execSettleExpired s
  | .scriptStart => Sys2Proof.Machine.execScriptStart s
  | .visitorWaitExpired button => Sys2Proof.Machine.execVisitorWaitExpired button s
  | .runtimeExpired => Sys2Proof.Machine.execRuntimeExpired s
  | .stepTimerExpired => Sys2Proof.Machine.execStepTimerExpired s
  | .coolDownExpired script => Sys2Proof.Machine.execCoolDownExpired script s
  | .dwellExpired => Sys2Proof.Machine.execDwellExpired s
  | .overrideExpired => Sys2Proof.Machine.execOverrideExpired s
  | .hostByteReceived byte => Sys2Proof.Machine.execHostByteReceived byte s
  | .resetNAsserted => Sys2Proof.Machine.execResetNAsserted s

end Sys2Proof.Machine
end

