-- ==== Sys2Proof/Safety.lean ====
section
/-! DEFINITION. What the statements call a good state, and the words they are put in. -/

namespace Sys2Proof.Machine

/-! ## Good states -/

/-- The bounds of HL's record: at most 64 queued events, a count that stops at 65535, and a mask that keeps MODE and
ALARMS and has no bit above 9 (R176, R177). -/
def Hl.Good (h : Hl) : Prop :=
  h.queue.length ≤ eventCapacity ∧ h.dropped ≤ 65535 ∧ h.mask.getLsbD 0 = true ∧ h.mask.getLsbD 1 = true
    ∧ h.mask.toNat < 1024

/-- HL's record is good. -/
def State.LinkGood (s : State) : Prop := s.hl.Good

/-- A condition of R91 that keeps every signal at DANGER. -/
abbrev State.AllStop (s : State) : Prop := s.mode ≠ .running ∨ s.lts.estop = true

/-- Every signal that R91 keeps at DANGER stands there: all of them outside RUNNING or with the E-stop input asserted,
and at any time one that is not present. -/
def State.DangerKept (s : State) : Prop :=
  ∀ x, s.AllStop ∨ s.signalRec x = none → (s.signal x).commanded = .danger

/-- No event is in progress: no hand-off waits and no re-scan is due (log 1). -/
abbrev State.NothingDue (s : State) : Prop := s.work = [] ∧ s.rescanDue = false

/-- No visitor waits and no script runs. -/
abbrev State.NoVisitors (s : State) : Prop := s.vpc.queue = [] ∧ s.vpc.runner = {}

/-- An event has no consequence beyond its own: no visitor waits, no script runs, no request is held, the controller is
not on its way to READY, and nothing is due. -/
abbrev State.Quiet (s : State) : Prop :=
  s.NothingDue ∧ s.NoVisitors ∧ s.rie.heldQueue = [] ∧ s.mode ≠ .stopping

/-- Nothing is left to be done: an event that changes nothing below leads to nothing more. -/
abbrev State.Rested (s : State) : Prop := s.NothingDue ∧ s.startable = none ∧ s.stoppingOver = false

/-- No setting context waits for a move in progress. -/
def State.OwnMove (s : State) : Prop := ∀ m, s.ttc.move = some m → m.context = 0

/-- A request to the turntable from an origin is let through (R132): there is a turntable, the mode is RUNNING, the origin
is AUTO or a desk, and the check of the deck's district passes. -/
abbrev State.TableOpen (s : State) (origin : Byte) (r : TurntableRec) : Prop :=
  s.tables.turntable = some r ∧ s.mode = .running ∧ origin.toNat ≤ 8
    ∧ s.districtCheck (originOf origin) s.deckDistrict = .pass

/-! ## RIE's records (R67, R72) -/

/-- A route in this state may hold something: one that is FREE or HELD holds nothing (R67). -/
def RouteState.mayHold : RouteState → Bool
  | .free | .held => false
  | .setting | .locked | .inUse | .approachLocked | .restoring => true

/-- The operating modes in which a route can be other than FREE (R88). -/
def Mode.hasRoutes : Mode → Bool
  | .running | .stopping | .halted => true
  | .starting | .unconfigured | .configuring | .checking | .ready => false

/-- The holders of point `p` fit the routes' records: at most four, no route twice, all of one lie (R40), and each is a route
that may hold and has a requirement on the point that it has not given back (R67, R68). -/
structure State.HoldersFit (s : State) (p : Nat) : Prop where
  few : (s.holders p).length ≤ 4
  once : ((s.holders p).map (·.1)).Nodup
  oneLie : ∀ h ∈ s.holders p, ∀ k ∈ s.holders p, h.2 = k.2
  held : ∀ h ∈ s.holders p, (s.route h.1).state.mayHold = true
    ∧ ∃ r x, s.routeRec h.1 = some r ∧ x ∈ r.reqs ∧ x.point = p ∧ x.release ∉ (s.route h.1).released
      ∧ (x.release = 0 → (s.route h.1).overlapReleased = false)

/-- RIE's records fit one another: at most 16 requests wait, each once, and they are the HELD routes (R72); what is held is
held by a route that may hold it (R40, R67); a context in use and the route it sets name each other (R75, R81); timers and
forcing belong to the states that have them (R85, R102, R105). -/
structure State.Interlocked (s : State) : Prop where
  fewWait : s.rie.heldQueue.length ≤ 16
  waitOnce : s.rie.heldQueue.Nodup
  waiting : ∀ q, q ∈ s.rie.heldQueue ↔ (s.route q).state = .held
  present : ∀ q, (s.route q).state ≠ .free → s.routeRec q ≠ none ∧ s.mode.hasRoutes = true
  free : ∀ q, (s.route q).state = .free → s.route q = { cause := (s.route q).cause }
  held : ∀ q, (s.route q).state = .held → s.route q = {
    state := .held, origin := (s.route q).origin, fleet := (s.route q).fleet, hold := (s.route q).hold,
    heldReason := (s.route q).heldReason, cause := (s.route q).cause }
  lock : ∀ t, (s.lock t).holder ≠ 0 → (s.route (s.lock t).holder).state.mayHold = true
    ∧ ∃ r, s.routeRec (s.lock t).holder = some r
      ∧ ((∃ k, r.path[k]? = some t ∧ k + 1 ∉ (s.route (s.lock t).holder).released)
        ∨ (t ∈ r.overlap ∧ (s.route (s.lock t).holder).overlapReleased = false))
  holders : ∀ p, s.HoldersFit p
  entry : ∀ x, s.entryHolder x ≠ 0 → (s.route (s.entryHolder x)).state.mayHold = true
    ∧ ∃ r, s.routeRec (s.entryHolder x) = some r ∧ r.entry = x
  deck : s.ttc.deckOwner ≠ 0 → (s.route s.ttc.deckOwner).state.mayHold = true
  setting : ∀ n, (s.context n).phase = .setting → (s.route (s.context n).route).state = .setting
    ∧ (s.route (s.context n).route).context = n
  restoring : ∀ n, (s.context n).phase = .draining ∨ (s.context n).phase = .unwinding →
    (s.route (s.context n).route).state = .restoring ∧ (s.route (s.context n).route).context = n
  set : ∀ q, (s.route q).state = .setting → (s.context (s.route q).context).phase = .setting
    ∧ (s.context (s.route q).context).route = q
  forced : ∀ q, (s.route q).forced = true → (s.route q).state = .locked ∨ (s.route q).state = .inUse
    ∨ (s.route q).state = .approachLocked
  approach : ∀ q, (s.route q).approachTimer ≠ none → (s.route q).state = .approachLocked
  overlap : ∀ q, (s.route q).overlapTimer ≠ none → (s.route q).state = .inUse

/-! ## Answers of the field loop -/

/-- An exchange is open with a node of a kind that is ONLINE, and an OUTPUT frame was sent to it. -/
abbrev State.Exchanging (s : State) (x : Exchange) (k : NodeKind) : Prop :=
  s.inReset = false ∧ s.flc.exchange = some x ∧ x.sent ≠ .identify ∧ (s.nodeRec x.address).kind = k
    ∧ (s.node x.address).state = .online

/-- The good answer of the addressed node with its readings and its status bits as they stand. -/
def State.answer (s : State) (x : Exchange) (d : InputData) : Instr :=
  .fieldReplyReceived { checkGood := true, address := x.address,
                        body := .input d (s.node x.address).supplyLow (s.node x.address).driveFault }

/-- The state once an answer of that kind has closed the exchange and before its readings are taken (R22, R25). -/
def State.answered (s : State) (x : Exchange) : State :=
  (s.setExchange none).setNode x.address
    { s.node x.address with state := .online, misses := 0, reportedKind := (s.nodeRec x.address).kind }

/-- An answer of a POINT node that drives one point, the record of that point and the reading its channel carries. -/
structure State.OnePoint (s : State) (x : Exchange) (out : List (DriveCommand × Nat)) (given : List ContactReading)
    (p : Nat) (r : PointRec) (v : ContactReading) : Prop where
  exchange : s.Exchanging x .point
  sent : x.sent = .pointOutput out
  one : s.pointsOn x.address = [p]
  present : s.pointRec p = some r
  node : r.drvNode = x.address
  reading : given[r.drvChan - 1]? = some v

/-- The answer acknowledges the command number that the point's channel carries and carried in the OUTPUT frame (R24). -/
def State.Acknowledged (s : State) (out : List (DriveCommand × Nat)) (p : Nat) (r : PointRec) (v : ContactReading) : Prop :=
  (∃ cmd, out[r.drvChan - 1]? = some (cmd, v.ack.toNat)) ∧ v.ack.toNat = (s.point p).commandNumber ∧ v.ack.toNat ≠ 0

/-- An acknowledgement, if the answer carries one, has no effect: no STOP and no order in SENT waits for it (R44 to R46). -/
def State.NothingAwaited (s : State) (out : List (DriveCommand × Nat)) (p : Nat) (r : PointRec) (v : ContactReading) : Prop :=
  s.Acknowledged out p r v → (s.point p).driveCommand ≠ .stop ∧ ∀ o, (s.point p).order = some o → o.phase ≠ .sent

/-- The record of a point whose order has completed: a MOTOR is commanded STOP with the next number (R46, R47). -/
def PointWork.completed (w : PointWork) (r : PointRec) (o : Order) : PointWork :=
  let next := if w.lastNumber = 255 then 1 else w.lastNumber + 1
  { commanded := some o.lie, order := none, failed := false,
    redriveUsed := if o.cause = .redrive then w.redriveUsed else false,
    driveCommand := if r.driveKind = .motor then .stop else w.driveCommand,
    commandNumber := if r.driveKind = .motor then next else w.commandNumber,
    lastNumber := if r.driveKind = .motor then next else w.lastNumber }

/-- Everyone an order was placed for is an origin: no setting context waits for its end. -/
abbrev Order.FromOrigins (o : Order) : Prop := ∀ q ∈ o.requesters, ∃ d, q = .origin d

/-- The detected lie of a point after a reading of a class (R34). -/
def State.detectedAfter (s : State) (p : Nat) (k : Detected) : Detected :=
  if (s.pointRead p).lastReading = some k then k else s.detected p

/-- The track pieces of a DETECT node whose occupancy its readings change, each with the new value (R31, R32). -/
def State.changedBy (s : State) (a : Nat) (l : List Bool) : List (Nat × Occupancy) :=
  (s.tracksOn a).filterMap fun e => l[e.2.detInput - 1]?.bind fun v =>
    let new := ((s.trackRead e.1).read s.general v).occupancy
    if new = s.occupancy e.1 then none else some (e.1, new)

/-- A DETECT node's answer changes one track piece, and each of its track pieces is listed once. -/
abbrev State.OneChange (s : State) (x : Exchange) (l : List Bool) (k : Nat) (new : Occupancy) : Prop :=
  s.Exchanging x .detect ∧ ((s.tracksOn x.address).map (·.1)).Nodup ∧ s.changedBy x.address l = [(k, new)]

/-! ## The panel and its scripts -/

/-- Every lamp shows the pattern of R157's table. -/
def State.LampsShown (s : State) : Prop := ∀ b, 1 ≤ b → b ≤ 16 → s.vpc.lamps.getD b .off = s.lampOf b

/-- One visitor waits, whose script may start, and nothing else is due. -/
abbrev State.OneVisitor (s : State) (v : VisitorEntry) (r : ScriptRec) : Prop :=
  s.inReset = false ∧ s.NothingDue ∧ s.rie.heldQueue = [] ∧ s.vpc.queue = [v] ∧ v.script ≠ 0 ∧ s.startable = some v
    ∧ s.scriptRec v.script = some r

/-- A script runs in RUNNING, no visitor waits and nothing else is due. -/
abbrev State.OneScript (s : State) (k : Nat) (r : ScriptRec) : Prop :=
  s.inReset = false ∧ s.NothingDue ∧ s.mode = .running ∧ s.vpc.queue = [] ∧ s.vpc.runner.script = k ∧ k ≠ 0
    ∧ s.scriptRec k = some r

/-- The runner of a script that has started, at its first step. -/
def State.runnerOf (s : State) (v : VisitorEntry) (r : ScriptRec) : Runner :=
  { script := v.script, button := v.button, runtimeAt := some (s.now + seconds r.maxRuntime) }

/-- The script has ended in `t`: no script runs and its cool-down has begun (R166, R167). -/
def State.ScriptEnded (t s : State) (k : Nat) (r : ScriptRec) : Prop :=
  t.vpc.runner = {} ∧ t.vpc.coolDowns.get? k
    = if r.coolDown = 0 then s.vpc.coolDowns.get? k else some (t.now + seconds r.coolDown)

/-- The script has been aborted at a step (R167). -/
def State.ScriptAborted (t s : State) (k : Nat) (r : ScriptRec) (c : AbortCause) (step : Nat) (f : StepFailure) : Prop :=
  t.ScriptEnded s k r ∧ t.vpc.lastAbort = some { script := k, cause := c, step := step, failure := f }

/-- The deck faces a road by the end that a TURN_TABLE step asked for (R163). -/
def State.FacesAsked (s : State) (road : Nat) : DeckEndAsked → Prop
  | .end1 => s.tables.faced s.ttc.p .end1 = road
  | .end2 => s.tables.faced s.ttc.p .end2 = road
  | .either => s.tables.faced s.ttc.p .end1 = road ∨ s.tables.faced s.ttc.p .end2 = road

/-! ## Signals -/

/-- Every condition of R91 holds on signal `x`, whose record is `r` and whose route is `rt`. -/
structure State.MayProceed (s : State) (x : Nat) (rt : RouteRec) (r : SignalRec) : Prop where
  held : s.entryHolder x ≠ 0
  route : s.routeRec (s.entryHolder x) = some rt
  present : s.signalRec x = some r
  mode : s.mode = .running
  estop : s.lts.estop = false
  locked : (s.route (s.entryHolder x)).state = .locked
  lies : ∀ q ∈ rt.reqs, s.lieOf q.point = some q.lie
  deck : ∀ d, rt.deck = some d → s.ttc.state = .aligned ∧ s.ttc.face d.2 = d.1
    ∧ ∀ tt, s.tables.turntable = some tt → tt.boltPresent = true → s.ttc.boltLevel = true
  reminder : (s.signal x).reminder = false
  forced : (s.route (s.entryHolder x)).forced = false
  fleet : (s.route (s.entryHolder x)).fleet = true → (s.route (s.entryHolder x)).passed = false
  node : (s.node r.headNode).state = .online ∨ (s.node r.headNode).state = .missing

/-! ## The configuration check -/

/-- Of tests in their order, `c` is the code of the first that fails, and none where every test holds. -/
def FirstFailing {κ : Type} : List (Prop × κ) → Option κ → Prop
  | [], c => c = none
  | (p, k) :: rest, c => (¬ p → c = some k) ∧ (p → FirstFailing rest c)

/-- What fails in the records of the tables, in the order of R9: the first of them is the check's result. -/
def failures (t : Tables) (dmg : List (Nat × Nat)) : List CheckResult :=
  let fails (table index : Nat) (c : Option CheckCode) : List CheckResult :=
    c.toList.map fun k => { code := k, table, index }
  fails 1 1 (Tables.sound dmg 1 1 t.general.inRange)
    ++ (List.range 31).flatMap (fun a => fails 2 (a + 1) (t.nodeTest dmg (a + 1)))
    ++ fails 3 0 t.tracksPresent
    ++ t.tracks.flatMap (fun e => fails 3 e.1 (t.trackTest dmg e.1 e.2))
    ++ t.points.flatMap (fun e => fails 4 e.1 (t.pointTest dmg e.1 e.2))
    ++ t.signals.flatMap (fun e => fails 5 e.1 (t.signalTest dmg e.1 e.2))
    ++ fails 8 1 t.turntableMatches
    ++ (match t.turntable with
      | some r => fails 8 1 (Tables.turntableTest dmg r)
        ++ t.roads.flatMap (fun e => fails 9 e.1 (t.roadTest dmg r e.1 e.2))
        ++ t.tracks.flatMap (fun e => fails 3 e.1 (t.roadUsed e.1 e.2))
      | none => [])
    ++ t.routes.flatMap (fun e => fails 6 e.1 (t.routeTest dmg e.1 e.2))
    ++ (List.range 8).flatMap (fun d => fails 7 (d + 1)
        (Tables.sound dmg 7 (d + 1) (t.districts.getD (d + 1) {}).inRange))
    ++ t.scripts.flatMap (fun e => fails 10 e.1 (t.scriptTest dmg e.1 e.2))
    ++ (List.range 12).flatMap (fun b => fails 11 (b + 1) (t.berthTest dmg (b + 1) (t.berths.getD (b + 1) {})))

/-- A written field reads back as `v`: as it was given, or as its default where it was left out (R2, R3). -/
def ReadsBack {α : Type} (f : Fld α) (dflt : Option α) (v : α) : Prop :=
  f = .given v ∨ (f = .omitted ∧ dflt = some v)

/-- The same for a field that is absent where it is left out. -/
def ReadsBackOr {α : Type} (f : Fld α) (v : Option α) : Prop :=
  (f = .omitted ∧ v = none) ∨ ∃ a, f = .given a ∧ v = some a

/-! ## Requests -/

/-- A request can be taken and is let through (R174): the controller is not in reset, no request is in service and the
mode is neither STARTING nor CHECKING. -/
abbrev State.Listens (s : State) : Prop := s.inReset = false ∧ s.hl.inService = none ∧ s.mode.isBusy = false

/-- The state that the owner of a request of a kind decides on: the receiver is HUNTING and the request in service. -/
def State.taken (s : State) (kind : Byte) : State :=
  s.setHl { s.hl with receiver := .hunting, inService := some kind }

/-- The reply is due. -/
def State.replied (s : State) (kind : Byte) (c : ResultCode) (body : ReplyBody := .plain) : State :=
  s.setHl { s.hl with reply := some { kind, result := c, body } }

/-- The end of an event that has no consequence beyond its own: the lamps are chosen afresh (R157). -/
def State.settled (s : State) : State := refreshLamps { s with work := [], rescanDue := false }

/-- HL's record after some events have been raised, in their order. -/
def Hl.raised (h : Hl) (l : List EventRec) : Hl := l.foldl Hl.enqueue h

/-- The reply that is due answers a request of a kind with a result and nothing more, and the request is in service. -/
def State.Answers (s : State) (kind : Byte) (c : ResultCode) : Prop :=
  s.hl.reply = some { kind, result := c } ∧ s.hl.inService = some kind

/-- The blocks below the host link, the tables and the memory stand as in `s`; HL, the lamps and the event in progress
may differ. -/
def State.SameBelow (t s : State) : Prop :=
  t.lts = s.lts ∧ t.flc = s.flc ∧ t.pts = s.pts ∧ t.rie = s.rie ∧ t.sau = s.sau ∧ t.dat = s.dat ∧ t.td = s.td
    ∧ t.ttc = s.ttc ∧ t.serial = s.serial

/-- Every present signal is commanded to DANGER. -/
def State.AtDanger (s : State) : Prop := ∀ x, s.signalRec x ≠ none → (s.signal x).commanded = .danger

/-- No present point has a throw order, and the throw queue is empty. -/
def State.NoThrows (s : State) : Prop := s.pts.queue = [] ∧ ∀ p, s.pointRec p ≠ none → (s.point p).order = none

/-- The request kind of a command that is a request of the host (11.8). -/
def requestKind : Instr → Option Byte
  | .identify => some 0x01#8
  | .getMode => some 0x02#8
  | .configure => some 0x03#8
  | .tableWrite _ _ _ => some 0x04#8
  | .tableRead _ _ => some 0x05#8
  | .commit => some 0x06#8
  | .store => some 0x07#8
  | .reload => some 0x08#8
  | .start => some 0x09#8
  | .stop => some 0x0A#8
  | .halt => some 0x0B#8
  | .restart => some 0x0C#8
  | .eventMask _ => some 0x10#8
  | .eventHold => some 0x11#8
  | .eventResume => some 0x12#8
  | .routeSet _ _ _ _ => some 0x20#8
  | .routeCancel _ _ => some 0x21#8
  | .routeForceRelease _ _ => some 0x22#8
  | .routeStatus _ => some 0x23#8
  | .sectionStatus _ => some 0x24#8
  | .pointThrow _ _ _ => some 0x28#8
  | .pointStatus _ => some 0x29#8
  | .signalReminder _ _ _ => some 0x2C#8
  | .signalStatus _ => some 0x2D#8
  | .districtAssign _ _ _ _ _ => some 0x30#8
  | .districtTake _ _ => some 0x31#8
  | .districtGiveBack _ _ => some 0x32#8
  | .districtStatus _ => some 0x33#8
  | .trainInterpose _ _ _ _ _ _ => some 0x38#8
  | .trainCancel _ _ => some 0x39#8
  | .trainStatus _ => some 0x3A#8
  | .tableHome _ => some 0x40#8
  | .tableMove _ _ _ => some 0x41#8
  | .tableStop _ => some 0x42#8
  | .tableHalt _ => some 0x43#8
  | .tableStatus => some 0x44#8
  | .visitorEnable _ _ => some 0x48#8
  | .visitorDefault _ _ => some 0x49#8
  | .visitorStatus => some 0x4A#8
  | .messagePut _ _ _ => some 0x4B#8
  | .rotationSet _ _ => some 0x4C#8
  | .nodeStatus _ => some 0x50#8
  | .coldStart _ _ _ | .imageLoadDone _ | .commitCheckDone | .storeDone _ | .estopAsserted | .estopReleased
  | .stoppingEnd | .hostFrameDiscarded | .frameGapTimeout | .requestLost | .badKindOrLength _ _ | .replyTransmit
  | .eventTransmit | .frameTransmitDone | .fieldFrameSent | .fieldReplyReceived _ | .replyWindowExpired
  | .fieldFrameDiscarded | .throwLimitExpired _ | .slotRelease _ | .throwOrderTaken | .restoreUnwind _
  | .heldRouteRescan | .heldExpiry _ | .approachTimerExpired _ | .overlapTimerExpired _ | .homingStep | .moveStep
  | .indexEdge | .boltInChange _ | .boltTimerExpired | .settleExpired | .scriptStart | .visitorWaitExpired _
  | .runtimeExpired | .stepTimerExpired | .coolDownExpired _ | .dwellExpired | .overrideExpired
  | .hostByteReceived _ | .resetNAsserted => none

/-- Several commands, one after another. -/
def runAll : List Instr → State → Out
  | [], s => .next s
  | c :: rest, s =>
    match exec c s with
    | .next t => runAll rest t
    | o => o

/-! ## Which commands may change what is stored -/

/-- Commands that may change the tables or the touched-district sets: a host byte may complete any request. -/
def changesTables : Instr → Bool
  | .coldStart _ _ _ | .resetNAsserted | .imageLoadDone _ | .commitCheckDone | .tableWrite _ _ _ | .visitorDefault _ _
  | .hostByteReceived _ => true
  | _ => false

/-- Commands that may change a district's working record. -/
def changesDistricts : Instr → Bool
  | .coldStart _ _ _ | .resetNAsserted | .imageLoadDone _ | .commitCheckDone | .districtAssign _ _ _ _ _
  | .districtTake _ _ | .districtGiveBack _ _ | .restart | .hostByteReceived _ => true
  | _ => false

/-- Commands that may change what the controller has left in the serial memory. -/
def changesMemory : Instr → Bool
  | .coldStart _ _ _ | .resetNAsserted | .store | .storeDone _ | .hostByteReceived _ => true
  | _ => false

/-- Commands that may change the event mask. -/
def changesMask : Instr → Bool
  | .coldStart _ _ _ | .resetNAsserted | .eventMask _ | .hostByteReceived _ => true
  | _ => false

end Sys2Proof.Machine
end

