-- ==== Sys2Proof/Certificates/Slice0/Obligations.lean ====
section
/-! DEFINITION. The statements about the controller. -/

open Sys2Proof Sys2Proof.Machine

/-! ## Steps and rules over all commands -/

/-- A step takes the command at the front of the queue and is its meaning on the state with the rest of the queue. -/
def Obligations.StepRunsFrontCommand : Prop :=
  ∀ (c : Instr) (rest : List Instr) (s : State), s.pending = c :: rest → step s = exec c { s with pending := rest }

/-- No command faults or is refused, and none touches the queue of the waiting commands. -/
def Obligations.EveryCommandAnswersNext : Prop :=
  ∀ (c : Instr) (s : State), ∃ t, exec c s = .next t ∧ t.pending = s.pending

/-- The reset state has HL's record good, nothing due, every signal at DANGER and RIE's records fitting one another. -/
def Obligations.ResetStateIsGood : Prop :=
  State.reset.LinkGood ∧ State.reset.NothingDue ∧ State.reset.DangerKept ∧ State.reset.Interlocked

/-- R176, R177: whatever a step does, the event queue stays within 64 records, the count of lost records within 65535, and
the mask keeps MODE and ALARMS. -/
def Obligations.LinkBoundsKeptByEveryStep : Prop :=
  ∀ s t : State, s.LinkGood → step s = .next t → t.LinkGood

/-- The model's choice (log 1): between events no hand-off waits and no re-scan is due. -/
def Obligations.NothingDueBetweenSteps : Prop :=
  ∀ s t : State, s.NothingDue → step s = .next t → t.NothingDue

/-- R40, R67, R72: whatever a step does, at most 16 requests wait, each once, and they are the HELD routes; a route that is
FREE or HELD holds no track piece, no point, no signal and no deck; a point has at most four holders, no route twice and all
of one lie; and a setting context and its route name each other. -/
def Obligations.InterlockingKeptByEveryStep : Prop :=
  ∀ s t : State, s.Interlocked → step s = .next t → t.Interlocked

/-- R91: whatever a step does, no signal leaves DANGER outside RUNNING or with the E-stop input asserted. -/
def Obligations.SignalsAtDangerKeptByEveryStep : Prop :=
  ∀ s t : State, s.DangerKept → step s = .next t → t.DangerKept

/-- R173, R174 and 11.8: the bytes of a request's frame, received one after another by a HUNTING receiver, do what the
request does. That the row of a request stands for its whole frame is log 4's reading. -/
def Obligations.FrameBytesMakeTheirRequest : Prop :=
  ∀ (kind : Byte) (body : List Byte) (c : Instr) (s : State), requestOf kind body = .request c → s.inReset = false →
    s.hl.receiver = .hunting →
    runAll ((frameBytes kind body).map Instr.hostByteReceived) s = exec c s

/-- Only these commands change the tables and the touched-district sets, the districts' working records, the serial
memory and the event mask. -/
def Obligations.StoredThingsChangeByTheirCommandsOnly : Prop :=
  ∀ (c : Instr) (s t : State), exec c s = .next t →
    (changesTables c = false → t.lts.tables = s.lts.tables ∧ t.lts.routeSets = s.lts.routeSets
      ∧ t.lts.scriptSets = s.lts.scriptSets)
    ∧ (changesDistricts c = false → t.dat = s.dat)
    ∧ (changesMemory c = false → t.serial = s.serial)
    ∧ (changesMask c = false → t.hl.mask = s.hl.mask)

/-! ## HL -/

/-- R178: a cold start puts every block at its cold-start values and reads the straps, ESTOP_N and the bolt; while RESET_N
is low every block is held there, so that in reset no command has an effect but a cold start and the reset itself. The waiting
commands, the memory (log 3) and the count of open values stay; a STORE cut short leaves no whole image. The model's choice
(log 2): with no command waiting a step lets 1 ms pass, and in reset nothing. -/
def Obligations.ColdStartAndResetValues : Prop :=
  (∀ s : State, s.pending = [] →
    (s.inReset = false → step s = .next { s with now := s.now + 1000 }) ∧ (s.inReset = true → step s = .next s))
  ∧ (∀ (c : Instr) (s : State), s.inReset = true → (∀ e b x, c ≠ .coldStart e b x) → c ≠ .resetNAsserted →
    exec c s = .next s)
  ∧ ∀ (estop : Bool) (baud : BitVec 2) (bolt : Bool) (s : State),
    exec (.coldStart estop baud bolt) s = .next { State.reset with
      hl := { State.reset.hl with baud := baud }, lts := { State.reset.lts with estop := estop },
      ttc := { State.reset.ttc with boltLevel := bolt },
      serial := if s.lts.storing = none then s.serial else .damaged, freeUse := s.freeUse, pending := s.pending }
    ∧ exec .resetNAsserted s = .next { State.reset with
      inReset := true, hl := {}, ttc := { State.reset.ttc with boltLevel := s.ttc.boltLevel },
      serial := if s.lts.storing = none then s.serial else .damaged, freeUse := s.freeUse, pending := s.pending }

/-- R173, R174: in STARTING and CHECKING every request but IDENTIFY and GET_MODE is answered BUSY (case 3), and nothing else
changes; a good frame that arrives while a request is in service is discarded and sets request_lost, and nothing else
changes. A discarded frame and a gap leave the receiver HUNTING and change nothing else; a frame lost while a request is in
service sets request_lost too; an unknown kind is answered BAD_KIND, and a length that the kind does not carry BAD_LENGTH, in
every mode; and the receiver byte by byte, up to the check of a frame. -/
def Obligations.FramesAndTheirBytes : Prop :=
  (∀ (c : Instr) (kind : Byte) (s : State), requestKind c = some kind → s.inReset = false →
    (kind ≠ 0x01#8 → kind ≠ 0x02#8 → s.hl.inService = none → s.mode = .starting ∨ s.mode = .checking →
      exec c s = .next ((s.taken kind).replied kind .busy))
    ∧ (s.hl.inService ≠ none →
      exec c s = .next (s.setHl { s.hl with receiver := .hunting, requestLost := true })))
  ∧ (∀ (kind : Byte) (n : Nat) (s : State), s.inReset = false →
      exec .hostFrameDiscarded s = .next (s.setHl { s.hl with receiver := .hunting })
      ∧ exec .frameGapTimeout s = .next (s.setHl { s.hl with receiver := .hunting })
      ∧ (s.hl.inService ≠ none →
        exec .requestLost s = .next (s.setHl { s.hl with receiver := .hunting, requestLost := true }))
      ∧ (s.hl.inService = none → isRequestKind kind = false →
        exec (.badKindOrLength kind n) s = .next ((s.taken kind).replied kind .badKind))
      ∧ (s.hl.inService = none → isRequestKind kind = true → lengthSuits kind n = false →
        exec (.badKindOrLength kind n) s = .next ((s.taken kind).replied kind .badLength)))
  ∧ ∀ (b n : Byte) (l : List Byte) (s : State), s.inReset = false →
      (s.hl.receiver = .hunting → b ≠ 0xA5#8 → exec (.hostByteReceived b) s = .next s)
      ∧ (s.hl.receiver = .hunting → b = 0xA5#8 →
        exec (.hostByteReceived b) s = .next (s.setHl { s.hl with receiver := .inFrame [] }))
      ∧ (s.hl.receiver = .inFrame [] → b.toNat = 0 ∨ 125 < b.toNat →
        exec (.hostByteReceived b) s = .next (s.setHl { s.hl with receiver := .hunting }))
      ∧ (s.hl.receiver = .inFrame [] → 1 ≤ b.toNat → b.toNat ≤ 125 →
        exec (.hostByteReceived b) s = .next (s.setHl { s.hl with receiver := .inFrame [b] }))
      ∧ (s.hl.receiver = .inFrame (n :: l) → l.length < n.toNat →
        exec (.hostByteReceived b) s = .next (s.setHl { s.hl with receiver := .inFrame (n :: l ++ [b]) }))
      ∧ (s.hl.receiver = .inFrame (n :: l) → n.toNat ≤ l.length → byteSum (n :: l ++ [b]) ≠ 0#8 →
        exec (.hostByteReceived b) s = .next (s.setHl { s.hl with receiver := .hunting }))

/-- R174, R175: the transmitter sends a due reply before an event, an event only while hold is NO, and the oldest one; the
end of a reply ends the request in service, and clears request_lost if the reply carried it: that the flag is the one that
stood when the reply began is log 4's reading. EVENT_HOLD and EVENT_RESUME set and clear hold, reply OK and change nothing
else. -/
def Obligations.TransmitterAndItsHold : Prop :=
  (∀ (r : Reply) (e : EventRec) (rest : List EventRec) (lost : Bool) (s : State), s.inReset = false →
      (s.hl.tx = .idle → s.hl.reply = some r →
        exec .replyTransmit s = .next (s.setHl { s.hl with tx := .reply r s.hl.requestLost, reply := none })
        ∧ exec .eventTransmit s = .next s)
      ∧ (s.hl.tx = .idle → s.hl.reply = none → s.hl.queue = e :: rest → s.hl.hold = false →
        exec .eventTransmit s = .next (s.setHl { s.hl with tx := .event e, queue := rest }))
      ∧ (s.hl.hold = true → exec .eventTransmit s = .next s)
      ∧ (s.hl.tx = .event e → exec .frameTransmitDone s = .next (s.setHl { s.hl with tx := .idle }))
      ∧ (s.hl.tx = .reply r lost → exec .frameTransmitDone s = .next (s.setHl
        { s.hl with tx := .idle, inService := none, requestLost := s.hl.requestLost && !lost })))
  ∧ ∀ s : State, s.Listens →
      exec .eventHold s = .next (((s.taken 0x11#8).setHl { (s.taken 0x11#8).hl with hold := true }).replied 0x11#8 .ok)
      ∧ exec .eventResume s
          = .next (((s.taken 0x12#8).setHl { (s.taken 0x12#8).hl with hold := false }).replied 0x12#8 .ok)

/-- R176: EVENT_MASK sets the mask, MODE and ALARMS staying in it and bits 10 to 15 ignored, and replies with it; an event
of another class is neither queued nor counted; a queued record is sent whatever the mask; the default stands at cold
start, and no other command changes the mask. -/
def Obligations.EventMaskRule : Prop :=
  (∀ (m : BitVec 16) (s : State), s.Listens →
    ∃ k : BitVec 16, (∀ i, k.getLsbD i = (decide (i < 2) || (decide (i < 10) && m.getLsbD i)))
      ∧ exec (.eventMask m) s = .next (((s.taken 0x10#8).setHl { (s.taken 0x10#8).hl with mask := k }).replied 0x10#8 .ok
          (.eventClasses k)))
  ∧ (∀ (e : EventRec) (s : State), s.hl.mask.getLsbD e.cls.bit = false → raise e s = s)
  ∧ (∀ (e : EventRec) (rest : List EventRec) (m : BitVec 16) (s : State), s.inReset = false → s.hl.tx = .idle →
    s.hl.reply = none → s.hl.hold = false → s.hl.queue = e :: rest →
    exec .eventTransmit (s.setHl { s.hl with mask := m })
      = .next (s.setHl { s.hl with mask := m, tx := .event e, queue := rest }))
  ∧ (∀ (e x : Bool) (b : BitVec 2) (s t : State), exec (.coldStart e b x) s = .next t →
    ∀ i, t.hl.mask.getLsbD i = (decide (i < 10) && i != 3 && i != 6))
  ∧ (∀ (c : Instr) (s t : State), changesMask c = false → exec c s = .next t → t.hl.mask = s.hl.mask)

/-- R177: a record of a class in the mask joins the tail of the queue; records lost before it are reported first; a full
queue discards it and counts the loss up to 65535. -/
def Obligations.EventQueueRule : Prop :=
  ∀ (e : EventRec) (h : Hl), h.mask.getLsbD e.cls.bit = true →
    (h.dropped = 0 → h.queue.length < 64 → h.enqueue e = { h with queue := h.queue ++ [e] })
    ∧ (0 < h.dropped → h.queue.length < 63 → h.enqueue e = { h with
        queue := h.queue ++ [{ kind := .eventsDropped, cls := .mode, subject := 0, v1 := BitVec.ofNat 16 h.dropped,
                               v2 := 0, v3 := 0 }, e],
        dropped := 0 })
    ∧ (0 < h.dropped → h.queue.length = 63 → h.enqueue e = { h with
        queue := h.queue ++ [{ kind := .eventsDropped, cls := .mode, subject := 0, v1 := BitVec.ofNat 16 h.dropped,
                               v2 := 0, v3 := 0 }],
        dropped := 1 })
    ∧ (64 ≤ h.queue.length → h.enqueue e = { h with dropped := min 65535 (h.dropped + 1) })

/-! ## LTS -/

/-- R2, R3, R179: where TABLE_WRITE is taken and what it leaves in the tables, and what TABLE_READ returns. -/
def Obligations.TableWriteAndReadAnswers : Prop :=
  ∀ (table index : Byte) (s : State), s.Listens →
    (s.mode ≠ .configuring → ∀ f,
      exec (.tableWrite table index f) s = .next ((s.taken 0x04#8).replied 0x04#8 .wrongMode))
    ∧ (s.mode = .configuring → addressesRecord table.toNat index.toNat = false → ∀ f,
      exec (.tableWrite table index f) s = .next ((s.taken 0x04#8).replied 0x04#8 .badValue))
    ∧ (s.mode = .configuring → addressesRecord table.toNat index.toNat = true →
      exec (.tableWrite table index .misfit) s = .next ((s.taken 0x04#8).replied 0x04#8 .badValue)
      ∧ exec (.tableWrite table index .clear) s = .next (((s.taken 0x04#8).setLts
          { s.lts with tables := s.tables.clearRecord table.toNat index.toNat }).replied 0x04#8 .ok)
      ∧ (∀ r, s.tables.writeRecord table.toNat index.toNat r = none →
        exec (.tableWrite table index (.record r)) s = .next ((s.taken 0x04#8).replied 0x04#8 .badValue))
      ∧ ∀ r t, s.tables.writeRecord table.toNat index.toNat r = some t →
        exec (.tableWrite table index (.record r)) s
          = .next (((s.taken 0x04#8).setLts { s.lts with tables := t }).replied 0x04#8 .ok))
    ∧ (addressesRecord table.toNat index.toNat = false →
      exec (.tableRead table index) s = .next ((s.taken 0x05#8).replied 0x05#8 .badValue))
    ∧ (addressesRecord table.toNat index.toNat = true → s.tables.readRecord table.toNat index.toNat = none →
      exec (.tableRead table index) s = .next ((s.taken 0x05#8).replied 0x05#8 .notFound))
    ∧ ∀ r, addressesRecord table.toNat index.toNat = true → s.tables.readRecord table.toNat index.toNat = some r →
      exec (.tableRead table index) s = .next ((s.taken 0x05#8).replied 0x05#8 .ok (.stored r))

/-- R2, R3: a write or a CLEAR replaces one record whole and leaves every other record as it was; a written record reads
back with the fields as they were given, those left out at their defaults, and letters of a train code folded; what is read
after a CLEAR is nothing, or the defaults of a table whose records are always present. -/
def Obligations.TableWriteReplacesOneRecord : Prop :=
  ∀ (table index table' index' : Nat) (t : Tables), addressesRecord table index = true →
    addressesRecord table' index' = true →
    (∀ r u, t.writeRecord table index r = some u →
      u.readRecord table index ≠ none
      ∧ ((table', index') ≠ (table, index) → u.readRecord table' index' = t.readRecord table' index')
      ∧ match r with
        | .general f => ∃ v, u.readRecord table index = some (.general v) ∧ v.inRange = true
          ∧ ReadsBack f.occupyCount (some 2) v.occupyCount ∧ ReadsBack f.clearCount (some 4) v.clearCount
          ∧ ReadsBack f.replyWindow (some 3) v.replyWindow ∧ ReadsBack f.driveBudget (some 2) v.driveBudget
          ∧ ReadsBack f.rechargeMs (some 400) v.rechargeMs ∧ ReadsBack f.heldDefault (some 120) v.heldDefault
          ∧ ReadsBack f.visitorWaitLimit (some 180) v.visitorWaitLimit ∧ ReadsBack f.dwell (some 8) v.dwell
          ∧ ReadsBack f.visitorAtStart (some false) v.visitorAtStart
        | .node f => ∃ v, u.readRecord table index = some (.node v) ∧ ReadsBack f (some .absent) v.kind
        | .track f => ∃ v, u.readRecord table index = some (.track v) ∧ v.inRange = true
          ∧ ReadsBack f.district none v.district ∧ ReadsBack f.detector none (v.detNode, v.detInput)
          ∧ ReadsBack f.kind (some .plain) v.kind ∧ ReadsBack f.endA (some .open) v.endA
          ∧ ReadsBack f.endB (some .open) v.endB
        | .point f => ∃ v, u.readRecord table index = some (.point v) ∧ v.inRange = true
          ∧ ReadsBack f.district none v.district ∧ ReadsBack f.drive none (v.drvNode, v.drvChan)
          ∧ ReadsBack f.driveKind (some .solenoid) v.driveKind
          ∧ (v.driveKind = .solenoid → ∃ c, v.pulseCode = some c ∧ ReadsBack f.pulseCode (some 2) c)
          ∧ (v.driveKind = .motor → f.pulseCode = .omitted ∧ v.pulseCode = none)
          ∧ ReadsBack f.throwLimit (some 30) v.throwLimit ∧ ReadsBack f.track none v.track
        | .signal f => ∃ v, u.readRecord table index = some (.signal v) ∧ v.inRange = true
          ∧ ReadsBack f.district none v.district ∧ ReadsBack f.head none (v.headNode, v.head)
          ∧ ReadsBack f.kind (some .main3) v.kind ∧ ReadsBack f.callOnHead (some false) v.callOnHead
        | .route f => ∃ v, u.readRecord table index = some (.route v) ∧ v.inRange = true
          ∧ ReadsBack f.cls (some .main) v.cls ∧ ReadsBack f.entry none v.entry ∧ ReadsBack f.exit none v.exit
          ∧ ReadsBack f.path none v.path ∧ ReadsBack f.reqs (some []) v.reqs
          ∧ ReadsBack f.overlap (some []) v.overlap ∧ ReadsBackOr f.deck v.deck
          ∧ ReadsBack f.approach (some []) v.approach ∧ ReadsBack f.approachTime (some 60) v.approachTime
          ∧ ReadsBack f.overlapTime (some 30) v.overlapTime
        | .district f => ∃ v, u.readRecord table index = some (.district v) ∧ v.inRange = true
          ∧ ReadsBack f.owner (some 0) v.owner ∧ ReadsBack f.shared (some false) v.shared
          ∧ ReadsBack f.visitorClass (some .closed) v.visitorClass
        | .turntable f => ∃ v, u.readRecord table index = some (.turntable v) ∧ v.inRange = true
          ∧ ReadsBack f.fullSteps none v.fullSteps ∧ ReadsBack f.microShift (some 0) v.microShift
          ∧ ReadsBack f.indexOffset (some 0) v.indexOffset ∧ ReadsBack f.slipTolerance (some 8) v.slipTolerance
          ∧ ReadsBack f.backlash (some 0) v.backlash ∧ ReadsBack f.rampSteps (some 100) v.rampSteps
          ∧ ReadsBack f.startRate (some 200) v.startRate ∧ ReadsBack f.topRate (some 800) v.topRate
          ∧ ReadsBack f.preferredDir (some .cw) v.preferredDir ∧ ReadsBack f.windingLimit (some 0) v.windingLimit
          ∧ ReadsBack f.settleMs (some 300) v.settleMs ∧ ReadsBack f.boltPresent (some false) v.boltPresent
          ∧ (v.boltPresent = true → ∃ c, v.boltLimit = some c ∧ ReadsBack f.boltLimit (some 10) c)
          ∧ (v.boltPresent = false → f.boltLimit = .omitted ∧ v.boltLimit = none)
          ∧ ReadsBack f.homeAttempts (some 3) v.homeAttempts
        | .road f => ∃ v, u.readRecord table index = some (.road v) ∧ v.inRange = true
          ∧ ReadsBack f.position none v.position ∧ ReadsBack f.track none v.track
          ∧ ReadsBack f.endsAllowed (some .both) v.endsAllowed
        | .script f => ∃ v, u.readRecord table index = some (.script v) ∧ v.inRange = true
          ∧ ReadsBack f.button none v.button
          ∧ (f.trainCode = .omitted ∧ v.trainCode = none
            ∨ ∃ c, f.trainCode = .given c ∧ v.trainCode = some (c.map foldByte))
          ∧ ReadsBack f.coolDown (some 60) v.coolDown ∧ ReadsBack f.maxRuntime (some 180) v.maxRuntime
          ∧ ReadsBack f.steps none v.steps
        | .berth f => ∃ v, u.readRecord table index = some (.berth v) ∧ v.inRange = true
          ∧ ReadsBack f (some 0) v.track)
    ∧ ((table', index') ≠ (table, index) →
      (t.clearRecord table index).readRecord table' index' = t.readRecord table' index')
    ∧ (t.clearRecord table index).readRecord table index =
        (match table with
         | 1 => some (.general {})
         | 2 => some (.node {})
         | 7 => some (.district {})
         | 11 => some (.berth {})
         | _ => none)

/-- What a passing check leaves (R178, R179, R184), of an image whose tables the read carries, of the image that a STORE has left,
and of a COMMIT: the tables and their sets stand, the districts are copied, the loop starts
with every configured node in CENSUS, and CHECK_DONE comes before MODE_CHANGED. -/
def Obligations.PassingCheckEntersReady : Prop :=
  ∀ (T : Tables) (dmg : List (Nat × Nat)) (s : State), s.inReset = false → s.Quiet →
    (∀ f, s.loading = true → (f = .image T dmg ∨ (f = .lastStored ∧ s.serial = .holds T (imageBytes T) ∧ dmg = [])) →
      (T.check dmg).code = .pass → ∃ t, exec (.imageLoadDone f) s = .next t
      ∧ t.mode = .ready ∧ t.tables = T ∧ t.lts.routeSets = T.routeSets ∧ t.lts.scriptSets = T.scriptSets
      ∧ t.lts.checking = none
      ∧ t.hl = s.hl.raised [eventOf .checkDone .mode 0 0 0 ((T.check dmg).table * 256 + (T.check dmg).index),
                            eventOf .modeChanged .mode 0 4 s.mode.code 2]
      ∧ (∀ d, 1 ≤ d → d ≤ 8 → t.district d = {
          owner := (t.districtRec d).owner, shared := (t.districtRec d).shared,
          visitorClass := (t.districtRec d).visitorClass, releaseHolder := 0 })
      ∧ (∀ a, (t.nodeRec a).kind ≠ .absent → t.node a = { state := .census })
      ∧ t.vpc.enable = (if s.mode = .starting then T.general.visitorAtStart else s.vpc.enable)
      ∧ t.rie = s.rie ∧ t.pts = s.pts ∧ t.sau = s.sau ∧ t.td = s.td ∧ t.ttc = s.ttc ∧ t.serial = s.serial)
    ∧ (s.mode = .checking → s.lts.checking = some .commit → s.tables.check.code = .pass →
      ∃ t, exec .commitCheckDone s = .next t
      ∧ t.mode = .ready ∧ t.tables = s.tables ∧ t.lts.routeSets = s.tables.routeSets
      ∧ t.lts.scriptSets = s.tables.scriptSets ∧ t.lts.checking = none
      ∧ t.hl = s.hl.raised [eventOf .checkDone .mode 0 4 0 (s.tables.check.table * 256 + s.tables.check.index),
                            eventOf .modeChanged .mode 0 4 3 2]
      ∧ (∀ d, 1 ≤ d → d ≤ 8 → t.district d = {
          owner := (t.districtRec d).owner, shared := (t.districtRec d).shared,
          visitorClass := (t.districtRec d).visitorClass, releaseHolder := 0 })
      ∧ (∀ a, (t.nodeRec a).kind ≠ .absent → t.node a = { state := .census })
      ∧ t.vpc.enable = s.vpc.enable
      ∧ t.rie = s.rie ∧ t.pts = s.pts ∧ t.sau = s.sau ∧ t.td = s.td ∧ t.ttc = s.ttc ∧ t.serial = s.serial)

/-- R178, R179, R184, R185: a load that does not pass empties the tables and enters UNCONFIGURED; a failed COMMIT keeps
the tables, empties the sets and returns to CONFIGURING; a memory cut short is found BAD_HEADER or BAD_CHECK. -/
def Obligations.FailingCheckReturns : Prop :=
  ∀ (f : ImageFound) (s : State), s.inReset = false → s.Quiet →
    (s.loading = true →
      (f = .noMemory ∨ f = .badHeader ∨ f = .badCheck ∨ (f = .lastStored ∧ s.serial = .damaged)
        ∨ (∃ T, f = .lastStored ∧ s.serial = .holds T (imageBytes T) ∧ T.check.code ≠ .pass)
        ∨ ∃ T dmg, f = .image T dmg ∧ (T.check dmg).code ≠ .pass) →
      ∃ t, exec (.imageLoadDone f) s = .next t
      ∧ t.mode = .unconfigured ∧ t.tables = {} ∧ t.lts.routeSets = [] ∧ t.lts.scriptSets = [] ∧ t.lts.checking = none
      ∧ (f = .noMemory → t.lts.lastCheck = (1, 0, 0)) ∧ (f = .badHeader → t.lts.lastCheck = (2, 0, 0))
      ∧ (f = .badCheck → t.lts.lastCheck = (3, 0, 0))
      ∧ (f = .lastStored → s.serial = .damaged → t.lts.lastCheck = (2, 0, 0) ∨ t.lts.lastCheck = (3, 0, 0))
      ∧ (∀ T, f = .lastStored → s.serial = .holds T (imageBytes T) →
        t.lts.lastCheck = (0, T.check.code.code, T.check.table * 256 + T.check.index))
      ∧ (∀ T dmg, f = .image T dmg →
        t.lts.lastCheck = (0, (T.check dmg).code.code, (T.check dmg).table * 256 + (T.check dmg).index))
      ∧ t.hl = s.hl.raised
          [eventOf .checkDone .mode 0 t.lts.lastCheck.1 t.lts.lastCheck.2.1 t.lts.lastCheck.2.2,
           eventOf .modeChanged .mode 0 1 s.mode.code 2]
      ∧ t.flc = s.flc ∧ t.rie = s.rie ∧ t.dat = s.dat ∧ t.serial = s.serial)
    ∧ (s.mode = .checking → s.lts.checking = some .commit → s.tables.check.code ≠ .pass →
      ∃ t, exec .commitCheckDone s = .next t
      ∧ t.mode = .configuring ∧ t.tables = s.tables ∧ t.lts.routeSets = [] ∧ t.lts.scriptSets = []
      ∧ t.lts.checking = none
      ∧ t.lts.lastCheck = (4, s.tables.check.code.code, s.tables.check.table * 256 + s.tables.check.index)
      ∧ t.flc = s.flc ∧ t.rie = s.rie ∧ t.dat = s.dat ∧ t.serial = s.serial)

/-- R9 to R17, R19: the check answers the first failure in its order and PASS where there is none; what each record is
tested for, in the order of the tests; and which districts the touched-district sets hold, each once. -/
def Obligations.CheckFindsTheFirstFailure : Prop :=
  ∀ (t : Tables) (dmg : List (Nat × Nat)) (a : Nat),
    t.check dmg = (failures t dmg).head?.getD {}
    ∧ FirstFailing [
        ((2, a) ∉ dmg, .fieldRange),
        (¬ (t.nodeKind a = .panel ∧ ∃ b, 1 ≤ b ∧ b < a ∧ t.nodeKind b = .panel), .panelTwice),
        (¬ (t.nodeKind a = .board ∧ ∃ b, 1 ≤ b ∧ b < a ∧ t.nodeKind b = .board), .boardTwice)] (t.nodeTest dmg a)
    ∧ FirstFailing [(t.tracks ≠ [], .noSections)] t.tracksPresent
    ∧ (∀ r : TrackRec, FirstFailing [
        (r.inRange = true ∧ (3, a) ∉ dmg, .fieldRange),
        (t.nodeKind r.detNode = .detect, .detectorNotDetect),
        (∀ e ∈ t.tracks, e.1 < a → e.2.detNode = r.detNode → e.2.detInput ≠ r.detInput, .detectorTwice),
        (match r.kind with
          | .plain => ∀ e, r.endA ≠ .table e ∧ r.endB ≠ .table e
          | .road => (r.endA = .table 0 ∧ ∀ e, r.endB ≠ .table e) ∨ (r.endB = .table 0 ∧ ∀ e, r.endA ≠ .table e)
          | .deck => (r.endA = .table 1 ∧ r.endB = .table 2) ∨ (r.endA = .table 2 ∧ r.endB = .table 1), .tableLinkKind),
        (r.kind = .deck → ∀ e ∈ t.tracks, e.1 < a → e.2.kind ≠ .deck, .deckTwice),
        (∀ l ∈ [r.endA, r.endB], (∀ u ∈ Tables.linkTracks l, t.tracks.get? u ≠ none)
          ∧ ∀ p n w, l = .point p n w → t.points.get? p ≠ none, .linkTargetAbsent),
        (a ∉ Tables.linkTracks r.endA ++ Tables.linkTracks r.endB
          ∧ (Tables.linkTracks r.endA ++ Tables.linkTracks r.endB).Nodup, .linkLoop),
        (∀ l ∈ [r.endA, r.endB],
          (∀ u, l = .track u → ∃ v, t.tracks.get? u = some v ∧ (v.endA.names a = true ∨ v.endB.names a = true))
          ∧ ∀ p n w, l = .point p n w → ∀ u ∈ [n, w], ∃ v, t.tracks.get? u = some v
            ∧ (v.endA = .track a ∨ v.endB = .track a), .linkNotReturned),
        (∀ e ∈ t.tracks, e.1 < a → ∀ p ∈ Tables.trackPoints e.2, p ∉ Tables.trackPoints r, .pointLinkTwice)]
      (t.trackTest dmg a r))
    ∧ (∀ r : PointRec, FirstFailing [
        (r.inRange = true ∧ (4, a) ∉ dmg, .fieldRange),
        (t.nodeKind r.drvNode = .point, .pointNotPointNode),
        (∀ e ∈ t.points, e.1 < a → e.2.drvNode = r.drvNode → e.2.drvChan ≠ r.drvChan, .pointChannelTwice),
        (∃ e ∈ t.tracks, a ∈ Tables.trackPoints e.2, .pointNoLink),
        (∃ v, t.tracks.get? r.track = some v ∧ a ∈ Tables.trackPoints v, .pointSectionWrong)] (t.pointTest dmg a r))
    ∧ (∀ r : SignalRec, FirstFailing [
        (r.inRange = true ∧ (5, a) ∉ dmg, .fieldRange),
        (t.nodeKind r.headNode = .signal, .signalNotSignalNode),
        (∀ e ∈ t.signals, e.1 < a → e.2.headNode = r.headNode → e.2.head ≠ r.head, .signalHeadTwice),
        (r.callOnHead = true → r.kind = .main3 ∨ r.kind = .main4, .callOnHeadKind)] (t.signalTest dmg a r))
    ∧ FirstFailing [((t.turntable ≠ none ↔ ∃ e ∈ t.tracks, e.2.kind = .deck)
        ∧ (t.turntable = none → t.roads = [] ∧ ∀ e ∈ t.tracks, e.2.kind ≠ .road), .turntableDeckMismatch)]
      t.turntableMatches
    ∧ (∀ r : TurntableRec, FirstFailing [
        (r.inRange = true ∧ (8, 1) ∉ dmg, .fieldRange),
        (r.fullSteps * 2 ^ r.microShift % 2 = 0, .nOdd),
        (r.indexOffset < r.fullSteps * 2 ^ r.microShift, .indexOffsetRange),
        (r.slipTolerance ≤ r.fullSteps * 2 ^ r.microShift / 8, .slipToleranceLarge),
        (r.windingLimit = 0 ∨ r.fullSteps * 2 ^ r.microShift + r.backlash ≤ 2 * r.windingLimit, .windingLimitSmall),
        (r.startRate ≤ r.topRate, .rateOrder)] (Tables.turntableTest dmg r)
      ∧ ∀ d : RoadRec, FirstFailing [
        (d.inRange = true ∧ (9, a) ∉ dmg, .fieldRange),
        (d.position < r.fullSteps, .roadPositionRange),
        (∀ e ∈ t.roads, e.1 < a → e.2.position ≠ d.position, .roadPositionTwice),
        (∃ v, t.tracks.get? d.track = some v ∧ v.kind = .road, .roadSectionKind),
        (∀ e ∈ t.roads, e.1 < a → e.2.track ≠ d.track, .roadSectionTwice)] (t.roadTest dmg r a d))
    ∧ (∀ r : TrackRec, FirstFailing [(r.kind = .road → ∃ e ∈ t.roads, e.2.track = a, .roadSectionUnused)] (t.roadUsed a r))
    ∧ (∀ q : RouteRec, FirstFailing [
        (q.inRange = true ∧ (6, a) ∉ dmg, .fieldRange),
        (t.signals.get? q.entry ≠ none ∧ (q.exit = 0 ∨ t.signals.get? q.exit ≠ none) ∧ q.exit ≠ q.entry,
          .routeSignalAbsent),
        (∃ x, t.signals.get? q.entry = some x ∧ (q.cls = .main → x.kind ≠ .shunt) ∧ (q.cls = .shunt → x.kind = .shunt)
          ∧ (q.cls = .callOn → x.callOnHead = true), .routeClassSignal),
        (q.cls ≠ .main → 2 ≤ q.path.length, .routePathShort),
        ((∀ k ∈ q.path ++ q.overlap ++ q.approach, t.tracks.get? k ≠ none) ∧ (q.path ++ q.overlap).Nodup
          ∧ q.approach.Nodup ∧ ∀ k ∈ q.approach, k ∉ q.path ++ q.overlap, .routeSectionBad),
        (∀ y ∈ q.reqs, t.points.get? y.point ≠ none, .routePointAbsent),
        ((q.reqs.map (·.point)).Nodup, .routePointTwice),
        ((q.deck ≠ none ↔ ∃ k ∈ q.path, t.deckIndex = some k) ∧ (∀ k ∈ q.overlap, t.deckIndex ≠ some k)
          ∧ ∀ d, q.deck = some d → ∃ v, t.roads.get? d.1 = some v
            ∧ (v.endsAllowed = .both ∨ (v.endsAllowed = .end1 ∧ d.2 = .end1) ∨ (v.endsAllowed = .end2 ∧ d.2 = .end2)),
          .routeDeckField),
        (q.exit = 0 → q.overlap = [], .routeBufferExit),
        (t.pathWalk q ≠ none, .routeNotAWalk),
        (∀ x c k, t.pathWalk q = some (x, c) → q.path.getLast? = some k → q.exit = 0 →
          ∃ v, t.tracks.get? k = some v ∧ v.link x = .buffer, .routeBufferExit),
        (∀ x c k, t.pathWalk q = some (x, c) → q.path.getLast? = some k → t.walkOn q k x q.overlap ≠ none,
          .routeOverlapNotAWalk),
        (∀ x c k y b, t.pathWalk q = some (x, c) → q.path.getLast? = some k → t.walkOn q k x q.overlap = some (y, b) →
          (∀ z ∈ q.reqs, (z.role = .path → z.point ∈ c.map (·.1)) ∧ (z.role = .overlap → z.point ∈ b.map (·.1))
            ∧ (z.role = .flank → z.point ∉ c.map (·.1) ∧ z.point ∉ b.map (·.1)))
          ∧ (∀ p ∈ c.map (·.1), ∃ z ∈ q.reqs, z.point = p ∧ z.role = .path)
          ∧ (∀ p ∈ b.map (·.1), ∃ z ∈ q.reqs, z.point = p ∧ z.role = .overlap), .routePointRole),
        (∀ x c k, t.pathWalk q = some (x, c) → q.path.getLast? = some k → ∀ z ∈ q.reqs,
          (z.role = .path → ∃ e, c.find? (fun e => e.1 == z.point) = some e ∧ e.2 ∈ q.path
            ∧ z.release = q.path.idxOf e.2 + 1)
          ∧ (z.role = .overlap → z.release = 0) ∧ (z.role = .flank → z.release ≤ q.path.length), .routeReleaseIndex)]
      (t.routeTest dmg a q))
    ∧ (∀ r : ScriptRec, FirstFailing [
        (r.inRange = true ∧ (10, a) ∉ dmg, .fieldRange),
        (∀ e ∈ t.scripts, e.1 < a → e.2.button ≠ r.button, .scriptButtonTwice),
        (∀ y ∈ r.steps, (match y with
          | .setRoute q | .cancelRoute q => t.routes.get? q ≠ none
          | .waitArrival k _ | .waitClear k _ => t.tracks.get? k ≠ none
          | .turnTable d e => t.turntable ≠ none ∧ ∃ v, t.roads.get? d = some v ∧ Tables.askedAdmitted e v.endsAllowed = true
          | .display _ _ | .pause _ => True), .scriptRefBad),
        (∀ i q : Nat, r.steps[i]? = some (ScriptStep.cancelRoute q) →
          ∃ j, j < i ∧ r.steps[j]? = some (ScriptStep.setRoute q),
          .scriptCancelNotSet)] (t.scriptTest dmg a r))
    ∧ (∀ r : BerthRec, FirstFailing [
        ((11, a) ∉ dmg ∧ r.inRange = true, .fieldRange),
        (r.track = 0 ∨ t.tracks.get? r.track ≠ none, .berthSectionAbsent)] (t.berthTest dmg a r))
    ∧ (∀ (q : RouteRec) (d : Nat), (t.routeSet q).Nodup ∧ (d ∈ t.routeSet q ↔
        (∃ k ∈ q.path ++ q.overlap, ∃ v, t.tracks.get? k = some v ∧ v.district = d)
        ∨ (∃ y ∈ q.reqs, ∃ v, t.points.get? y.point = some v ∧ v.district = d)
        ∨ (∃ v, t.signals.get? q.entry = some v ∧ v.district = d)
        ∨ (q.deck ≠ none ∧ ∃ k v, t.deckIndex = some k ∧ t.tracks.get? k = some v ∧ v.district = d)))
    ∧ (∀ (r : ScriptRec) (d : Nat), (t.scriptSet r).Nodup ∧ (d ∈ t.scriptSet r ↔
        (∃ q rt, .setRoute q ∈ r.steps ∧ t.routes.get? q = some rt ∧ d ∈ t.routeSet rt)
        ∨ ((∃ x e, .turnTable x e ∈ r.steps)
          ∧ ∃ k v, t.deckIndex = some k ∧ t.tracks.get? k = some v ∧ v.district = d)))
    ∧ (∀ k, t.routeSets.get? k = (t.routes.get? k).map t.routeSet
      ∧ t.scriptSets.get? k = (t.scripts.get? k).map t.scriptSet)

/-- R184 and the image of 11.7: STORE and its end; the bytes written are the marker 0x49, 0x58, the format 0x01, the number of
table bytes, the tables field, whose encoding is open (log 5), and the sum of all these modulo 65536. That the memory holds no whole image while the write goes on is the model's choice (log 3). -/
def Obligations.StoreAndItsEnd : Prop :=
  ∀ s : State,
    (s.Listens → s.mode ≠ .ready → s.mode ≠ .running → exec .store s = .next ((s.taken 0x07#8).replied 0x07#8 .wrongMode))
    ∧ (s.Listens → s.mode = .ready ∨ s.mode = .running → s.lts.storing ≠ none →
      exec .store s = .next ((s.taken 0x07#8).replied 0x07#8 .busy))
    ∧ (s.Listens → s.Quiet → s.mode = .ready ∨ s.mode = .running → s.lts.storing = none →
      exec .store s = .next ((State.settled { (s.taken 0x07#8).setLts { s.lts with storing := some s.tables } with
        serial := .damaged }).replied 0x07#8 .accepted))
    ∧ ∀ T, s.inReset = false → s.Quiet → s.lts.storing = some T →
      (1 ≤ tableBytes T ∧ tableBytes T ≤ 32761)
      ∧ (∃ front field check len, imageBytes T = front ++ check ∧ front = [0x49#8, 0x58#8, 0x01#8] ++ len ++ field
        ∧ len.length = 2 ∧ numberAt len 0 = tableBytes T ∧ field.length = tableBytes T ∧ check.length = 2
        ∧ numberAt check 0 = (front.map (·.toNat)).sum % 65536)
      ∧ exec (.storeDone true) s = .next (State.settled (raise (eventOf .storeDone .mode 0 0 (tableBytes T))
          { s.setLts { s.lts with storing := none } with serial := .holds T (imageBytes T) }))
      ∧ exec (.storeDone false) s = .next (State.settled (raise (eventOf .storeDone .mode 0 1)
          { s.setLts { s.lts with storing := none } with serial := .damaged }))

/-- R179, R185, R20, R180: CONFIGURE, COMMIT and RELOAD: the modes that take them, the refusals, and the mode they enter;
from READY the loop stops, and each node is ABSENT with misses 0 and what it has reported. START enters RUNNING from READY,
is refused ESTOP while the input is asserted, and WRONG_MODE elsewhere; that it raises MODE_CHANGED and no SIGNAL_ASPECT is
log 9's choice. -/
def Obligations.ConfiguringAndStart : Prop :=
  (∀ s : State, s.Listens → s.Quiet →
      (s.mode = .unconfigured →
        exec .configure s = .next ((enterMode .configuring .request (s.taken 0x03#8)).settled.replied 0x03#8 .ok))
      ∧ (s.mode = .ready → ∃ t, exec .configure s = .next t ∧ t.Answers 0x03#8 .ok ∧ t.mode = .configuring
        ∧ t.tables = s.tables ∧ t.flc = { nodes := t.flc.nodes }
        ∧ (∀ a, t.node a = { s.node a with state := .absent, misses := 0 })
        ∧ t.pts = {} ∧ t.sau = [] ∧ t.td = {} ∧ t.ttc.state = .unhomed
        ∧ t.ttc.homed = false ∧ t.ttc.boltLevel = s.ttc.boltLevel ∧ t.vpc.coolDowns = [] ∧ t.dat = s.dat
        ∧ t.rie = s.rie)
      ∧ (s.mode ≠ .unconfigured → s.mode ≠ .ready →
        exec .configure s = .next ((s.taken 0x03#8).replied 0x03#8 .wrongMode))
      ∧ (s.mode = .configuring → ∃ t, exec .commit s = .next t ∧ t.Answers 0x06#8 .accepted ∧ t.mode = .checking
        ∧ t.lts = { s.lts with mode := .checking, checking := some .commit })
      ∧ (s.mode ≠ .configuring → exec .commit s = .next ((s.taken 0x06#8).replied 0x06#8 .wrongMode))
      ∧ (s.mode = .unconfigured ∨ s.mode = .configuring ∨ s.mode = .ready →
        (s.lts.storing ≠ none → exec .reload s = .next ((s.taken 0x08#8).replied 0x08#8 .busy))
        ∧ (s.lts.storing = none → ∃ t, exec .reload s = .next t ∧ t.Answers 0x08#8 .accepted
          ∧ t.lts = { s.lts with mode := .checking, checking := some .reload }
          ∧ (s.mode = .ready → t.flc = { nodes := t.flc.nodes }
            ∧ (∀ a, t.node a = { s.node a with state := .absent, misses := 0 })
            ∧ t.pts = {} ∧ t.sau = [] ∧ t.td = {} ∧ t.ttc.state = .unhomed)
          ∧ (s.mode ≠ .ready → t.flc = s.flc ∧ t.pts = s.pts ∧ t.sau = s.sau ∧ t.td = s.td ∧ t.ttc = s.ttc)))
      ∧ (s.mode ≠ .unconfigured → s.mode ≠ .configuring → s.mode ≠ .ready →
        exec .reload s = .next ((s.taken 0x08#8).replied 0x08#8 .wrongMode)))
  ∧ ∀ s : State, s.Listens →
      (s.mode ≠ .ready → exec .start s = .next ((s.taken 0x09#8).replied 0x09#8 .wrongMode))
      ∧ (s.mode = .ready → s.lts.estop = true → exec .start s = .next ((s.taken 0x09#8).replied 0x09#8 .estop))
      ∧ (s.mode = .ready → s.lts.estop = false → s.Quiet → ∃ t, exec .start s = .next t ∧ t.Answers 0x09#8 .ok
        ∧ t.lts = { s.lts with mode := .running }
        ∧ t.hl.queue = (s.hl.raised [eventOf .modeChanged .mode 0 5 4 1]).queue
        ∧ t.pts = s.pts ∧ t.td = s.td ∧ t.ttc = s.ttc ∧ t.dat = s.dat ∧ t.rie.locks = s.rie.locks
        ∧ (∀ q, (t.route q).state = (s.route q).state)
        ∧ ∀ x, s.signalRec x ≠ none → s.entryHolder x = 0 → (t.signal x).commanded = .danger)

/-- R181: HALT and the assertion of the E-stop input enter HALTED from RUNNING and STOPPING: signals at DANGER, throws
abandoned, the deck stopped, no script, no visitor, no timer of a route running, and every lock as it was; HALT is OK in
HALTED and WRONG_MODE elsewhere, and the input's other changes change no mode. -/
def Obligations.HaltAndEstop : Prop :=
  (∀ s : State, s.NothingDue → s.mode = .running ∨ s.mode = .stopping →
      (s.Listens → ∃ t, exec .halt s = .next t ∧ t.Answers 0x0B#8 .ok ∧ t.mode = .halted ∧ t.lts.estop = s.lts.estop
        ∧ t.AtDanger ∧ t.NoThrows ∧ t.vpc.queue = [] ∧ t.vpc.runner.script = 0
        ∧ (s.tables.turntable ≠ none → t.ttc.state.isMoving = false)
        ∧ t.rie.locks = s.rie.locks ∧ t.rie.holders = s.rie.holders ∧ t.rie.heldQueue = s.rie.heldQueue
        ∧ ∀ q, (t.route q).state = (s.route q).state ∧ (t.route q).approachTimer = none
          ∧ (t.route q).overlapTimer = none ∧ ∀ e, (t.route q).hold ≠ .runs e)
      ∧ (s.inReset = false → s.lts.estop = false → ∃ t, exec .estopAsserted s = .next t ∧ t.mode = .halted
        ∧ t.lts.estop = true
        ∧ t.AtDanger ∧ t.NoThrows ∧ t.vpc.queue = [] ∧ t.vpc.runner.script = 0
        ∧ (s.tables.turntable ≠ none → t.ttc.state.isMoving = false)
        ∧ t.rie.locks = s.rie.locks ∧ t.rie.holders = s.rie.holders ∧ t.rie.heldQueue = s.rie.heldQueue
        ∧ ∀ q, (t.route q).state = (s.route q).state ∧ (t.route q).approachTimer = none
          ∧ (t.route q).overlapTimer = none ∧ ∀ e, (t.route q).hold ≠ .runs e))
  ∧ ∀ s : State,
      (s.Listens → s.mode = .halted → exec .halt s = .next ((s.taken 0x0B#8).replied 0x0B#8 .ok))
      ∧ (s.Listens → s.mode ≠ .halted → s.mode ≠ .running → s.mode ≠ .stopping →
        exec .halt s = .next ((s.taken 0x0B#8).replied 0x0B#8 .wrongMode))
      ∧ (s.inReset = false → s.Quiet → s.mode ≠ .running → s.lts.estop = false →
        ∃ t, exec .estopAsserted s = .next t ∧ t.lts = { s.lts with estop := true } ∧ t.AtDanger
          ∧ t.pts = s.pts ∧ t.ttc = s.ttc ∧ t.td = s.td ∧ t.dat = s.dat)
      ∧ (s.inReset = false → s.Quiet → s.lts.estop = true →
        ∃ t, exec .estopReleased s = .next t ∧ t.lts = { s.lts with estop := false }
          ∧ t.pts = s.pts ∧ t.ttc = s.ttc ∧ t.td = s.td ∧ t.dat = s.dat)

/-- R180, R88: STOP, the held routes it drops, and the end of STOPPING at entry or later. -/
def Obligations.StopAndTheEndOfStopping : Prop :=
  ∀ s : State,
    (s.Listens → s.mode = .stopping → exec .stop s = .next ((s.taken 0x0A#8).replied 0x0A#8 .ok))
    ∧ (s.Listens → s.mode ≠ .running → s.mode ≠ .stopping →
      exec .stop s = .next ((s.taken 0x0A#8).replied 0x0A#8 .wrongMode))
    ∧ (s.Listens → s.NothingDue → s.NoVisitors → s.mode = .running → ∃ t, exec .stop s = .next t
      ∧ t.Answers 0x0A#8 .accepted ∧ t.AtDanger ∧ t.rie.heldQueue = [] ∧ (∀ q ∈ s.rie.heldQueue, (t.route q).state = .free)
      ∧ ((∀ n, n ∈ [1, 2, 3, 4] → (s.context n).phase = .free) ∧ s.throwsGoOn = false ∧ s.ttc.state.isMoving = false →
          t.mode = .ready ∧ t.rie = {} ∧ t.NoThrows)
      ∧ (¬ ((∀ n, n ∈ [1, 2, 3, 4] → (s.context n).phase = .free) ∧ s.throwsGoOn = false
            ∧ s.ttc.state.isMoving = false) →
          t.mode = .stopping ∧ t.pts = s.pts ∧ t.ttc = s.ttc ∧ t.rie.locks = s.rie.locks
          ∧ t.rie.contexts = s.rie.contexts))
    ∧ (s.inReset = false → s.NothingDue → s.NoVisitors → s.stoppingOver = true → ∃ t, exec .stoppingEnd s = .next t
      ∧ t.mode = .ready ∧ t.AtDanger ∧ t.rie = {} ∧ t.NoThrows ∧ t.ttc.state = s.ttc.state ∧ t.ttc.deckOwner = 0
      ∧ t.td = s.td ∧ t.dat = s.dat)

/-- R182: a warm restart: READY, every route free without restore, throws abandoned, the deck stopped, releases ended,
visitors dropped, the enable copied, train records kept, and MODE_CHANGED first in an emptied queue. -/
def Obligations.WarmRestart : Prop :=
  ∀ s : State, s.Listens →
    (s.mode = .halted → s.lts.estop = true → exec .restart s = .next ((s.taken 0x0C#8).replied 0x0C#8 .estop))
    ∧ (s.mode = .unconfigured ∨ s.mode = .configuring →
      exec .restart s = .next ((s.taken 0x0C#8).replied 0x0C#8 .wrongMode))
    ∧ (s.mode = .ready ∨ s.mode = .running ∨ s.mode = .stopping ∨ s.mode = .halted ∧ s.lts.estop = false →
      s.NothingDue → s.hl.mask.getLsbD 0 = true → ∃ t, exec .restart s = .next t ∧ t.Answers 0x0C#8 .ok
      ∧ t.mode = .ready ∧ t.tables = s.tables ∧ t.lts.storing = s.lts.storing ∧ t.serial = s.serial
      ∧ (∃ l, t.hl.queue = eventOf .modeChanged .mode 0 4 s.mode.code 5 :: l)
      ∧ (s.tables.turntable = none →
        t.hl.queue = [eventOf .modeChanged .mode 0 4 s.mode.code 5] ∧ t.hl.dropped = 0)
      ∧ t.hl.mask = s.hl.mask ∧ t.hl.hold = s.hl.hold
      ∧ t.rie = {} ∧ t.ttc.deckOwner = 0 ∧ t.NoThrows ∧ t.AtDanger
      ∧ (s.tables.turntable ≠ none → t.ttc.state.isMoving = false)
      ∧ (∀ d, (t.district d).releaseHolder = 0 ∧ (t.district d).owner = (s.district d).owner)
      ∧ t.NoVisitors ∧ t.vpc.coolDowns = [] ∧ t.vpc.enable = s.general.visitorAtStart
      ∧ t.td.trains = s.td.trains ∧ t.flc.nodes = s.flc.nodes ∧ t.flc.tracks = s.flc.tracks)

/-! ## RIE -/

/-- R69, R70, R71: the answers of ROUTE_SET that set no route, each case in its place, and the request that waits; and the
conflict examination: the ten conflicts of R70, each with its condition, of which the first in order is the one reported. -/
def Obligations.RouteSetRefusalsAndWaiting : Prop :=
  (∀ (q : Nat) (o : Origin) (r : RouteRec) (s : State), s.routeRec q = some r → FirstFailing [
    (s.routeCheck o q ≠ .localRelease, .localRelease),
    (r.deck ≠ none → s.ttc.deckOwner = 0, .tableOwned),
    (∀ k ∈ r.path ++ r.overlap, (s.lock k).holder = 0, .sectionHeld),
    (∀ y ∈ r.reqs, ∀ h ∈ s.holders y.point, h.2 = y.lie, .pointOtherLie),
    (∀ y ∈ r.reqs, ∀ w, (s.point y.point).order = some w → w.lie = y.lie, .pointMoving),
    (∀ y ∈ r.reqs, (s.holders y.point).length < 4, .holdersFull),
    (s.entryHolder r.entry = 0, .entryBusy),
    (r.deck ≠ none → s.ttc.state ≠ .unhomed ∧ s.ttc.state ≠ .fault, .tableNotReady),
    (r.deck ≠ none → s.ttc.state ∉ [.homing, .unbolting, .moving, .settling, .bolting], .tableBusy),
    (∃ n ∈ [1, 2, 3, 4], (s.context n).phase = .free, .contextsFull)] (s.conflict q o))
  ∧ ∀ (route origin options : Byte) (limit : BitVec 16) (s : State), s.Listens →
    (s.mode ≠ .running →
      exec (.routeSet route origin options limit) s = .next ((s.taken 0x20#8).replied 0x20#8 .wrongMode))
    ∧ (s.mode = .running →
      (route.toNat < 1 ∨ 192 < route.toNat ∨ 8 < origin.toNat →
        exec (.routeSet route origin options limit) s = .next ((s.taken 0x20#8).replied 0x20#8 .badValue))
      ∧ (1 ≤ route.toNat → route.toNat ≤ 192 → origin.toNat ≤ 8 →
        (s.routeRec route.toNat = none →
          exec (.routeSet route origin options limit) s = .next ((s.taken 0x20#8).replied 0x20#8 .notFound))
        ∧ ∀ r, s.routeRec route.toNat = some r →
          (options.getLsbD 1 = true → r.cls ≠ .main →
            exec (.routeSet route origin options limit) s = .next ((s.taken 0x20#8).replied 0x20#8 .badValue))
          ∧ ((options.getLsbD 1 = true → r.cls = .main) →
            ((s.route route.toNat).state ≠ .free →
              exec (.routeSet route origin options limit) s = .next ((s.taken 0x20#8).replied 0x20#8 .duplicate))
            ∧ ((s.route route.toNat).state = .free →
              (s.routeCheck (originOf origin) route.toNat = .noAuthority →
                exec (.routeSet route origin options limit) s = .next ((s.taken 0x20#8).replied 0x20#8 .noAuthority))
              ∧ ∀ c, s.routeCheck (originOf origin) route.toNat ≠ .noAuthority →
                s.conflict route.toNat (originOf origin) = some c →
                (options.getLsbD 0 = false →
                  exec (.routeSet route origin options limit) s
                    = .next ((s.taken 0x20#8).replied 0x20#8 .conflict (.reason c)))
                ∧ (options.getLsbD 0 = true → 16 ≤ s.rie.heldQueue.length →
                  exec (.routeSet route origin options limit) s = .next ((s.taken 0x20#8).replied 0x20#8 .full))
                ∧ (options.getLsbD 0 = true → s.rie.heldQueue.length < 16 → s.NothingDue → s.NoVisitors →
                  ∃ t, exec (.routeSet route origin options limit) s = .next t
                  ∧ t.hl.reply = some { kind := 0x20#8, result := .queued, body := .reason c }
                  ∧ t.rie.heldQueue = s.rie.heldQueue ++ [route.toNat]
                  ∧ t.route route.toNat = {
                      state := .held, origin := some (originOf origin), fleet := options.getLsbD 1, heldReason := some c,
                      hold := .runs (s.now + seconds (if limit.toNat = 0 then s.general.heldDefault
                        else min limit.toNat 600)),
                      cause := .conflict c }
                  ∧ t.rie.locks = s.rie.locks ∧ t.rie.holders = s.rie.holders ∧ t.pts = s.pts ∧ t.ttc = s.ttc)))))

/-- R75, R77, R71, R66: a route without a conflict whose points all lie as required, and whose deck, if it crosses it, is
aligned: it takes its locks and is LOCKED in the same event, with cause REQUESTED (R77, first case), and the reply is OK
(R71). -/
def Obligations.RouteSetLocksAtOnce : Prop :=
  ∀ (route origin options : Byte) (limit : BitVec 16) (r : RouteRec) (s : State), s.Listens → s.Quiet →
    s.mode = .running → 1 ≤ route.toNat → route.toNat ≤ 192 → origin.toNat ≤ 8 → s.routeRec route.toNat = some r →
    (options.getLsbD 1 = true → r.cls = .main) → (s.route route.toNat).state = .free →
    s.routeCheck (originOf origin) route.toNat ≠ .noAuthority → s.conflict route.toNat (originOf origin) = none →
    (∀ x ∈ r.reqs, s.liesAt x.point x.lie = true) → (∀ d, r.deck = some d → s.ttc.alignedAt d.1 d.2 = true) →
    ∃ t, exec (.routeSet route origin options limit) s = .next t ∧ t.Answers 0x20#8 .ok
    ∧ (t.route route.toNat).state = .locked ∧ (t.route route.toNat).origin = some (originOf origin)
    ∧ (t.route route.toNat).fleet = options.getLsbD 1 ∧ (t.route route.toNat).context = 0
    ∧ (t.route route.toNat).forced = false ∧ (t.route route.toNat).cause = .requested
    ∧ (∀ q, q ≠ route.toNat → (t.route q).state = (s.route q).state)
    ∧ (∀ x, (t.lock x).holder = if x ∈ r.path ++ r.overlap then route.toNat else (s.lock x).holder)
    ∧ (∀ x ∈ r.reqs, (route.toNat, x.lie) ∈ t.holders x.point)
    ∧ (∀ p, (∀ x ∈ r.reqs, x.point ≠ p) → t.holders p = s.holders p)
    ∧ (∀ x, t.entryHolder x = if x = r.entry then route.toNat else s.entryHolder x)
    ∧ t.ttc = { s.ttc with deckOwner := if r.deck.isSome then route.toNat else s.ttc.deckOwner }
    ∧ t.pts = s.pts ∧ t.td = s.td ∧ t.dat = s.dat ∧ t.lts = s.lts

/-- R75, R76: a route without a conflict some of whose points do not lie as required takes its locks and a context, orders
their throws and is SETTING. -/
def Obligations.RouteSetOrdersItsThrows : Prop :=
  ∀ (route origin options : Byte) (limit : BitVec 16) (r : RouteRec) (n : Nat) (s : State), s.Listens → s.Quiet →
    s.mode = .running → 1 ≤ route.toNat → route.toNat ≤ 192 → origin.toNat ≤ 8 → s.routeRec route.toNat = some r →
    (options.getLsbD 1 = true → r.cls = .main) → (s.route route.toNat).state = .free →
    s.routeCheck (originOf origin) route.toNat ≠ .noAuthority → s.conflict route.toNat (originOf origin) = none →
    (r.reqs.map (·.point)).Nodup → (∃ x ∈ r.reqs, s.liesAt x.point x.lie = false) →
    (∀ x ∈ r.reqs, (s.pointNode x.point).isLost = false) →
    (∀ d, r.deck = some d → s.ttc.alignedAt d.1 d.2 = true) → s.freeContext = some n →
    ∃ t, exec (.routeSet route origin options limit) s = .next t ∧ t.Answers 0x20#8 .accepted
    ∧ (t.route route.toNat).state = .setting ∧ (t.route route.toNat).context = n
    ∧ (t.route route.toNat).cause = .requested
    ∧ t.context n = {
        route := route.toNat, phase := .setting,
        journal := (r.reqs.filter fun x => !s.liesAt x.point x.lie).map fun x =>
          { target := .point x.point x.lie (s.lieOf x.point) } }
    ∧ (∀ x ∈ r.reqs, s.liesAt x.point x.lie = false →
      ∃ o, (t.point x.point).order = some o ∧ o.lie = x.lie ∧ .context n ∈ o.requesters)
    ∧ (∀ x, (t.lock x).holder = if x ∈ r.path ++ r.overlap then route.toNat else (s.lock x).holder)
    ∧ (∀ x ∈ r.reqs, (route.toNat, x.lie) ∈ t.holders x.point)
    ∧ (∀ x, t.entryHolder x = if x = r.entry then route.toNat else s.entryHolder x)
    ∧ t.td = s.td ∧ t.dat = s.dat ∧ t.lts = s.lts

/-- R84, R102, R107: ROUTE_CANCEL: its refusals in their order, the states it changes nothing in, and the cancel of a
LOCKED route, fleet or not, of a SETTING one and of a HELD one, be others queued or not. -/
def Obligations.RouteCancelByState : Prop :=
  ∀ (route origin : Byte) (s : State), s.Listens →
    (s.railActive = false →
      exec (.routeCancel route origin) s = .next ((s.taken 0x21#8).replied 0x21#8 .wrongMode))
    ∧ (s.railActive = true →
      (route.toNat < 1 ∨ 192 < route.toNat ∨ 8 < origin.toNat →
        exec (.routeCancel route origin) s = .next ((s.taken 0x21#8).replied 0x21#8 .badValue))
      ∧ (1 ≤ route.toNat → route.toNat ≤ 192 → origin.toNat ≤ 8 →
        (s.routeRec route.toNat = none →
          exec (.routeCancel route origin) s = .next ((s.taken 0x21#8).replied 0x21#8 .notFound))
        ∧ ∀ r, s.routeRec route.toNat = some r →
          ((s.route route.toNat).state = .free →
            exec (.routeCancel route origin) s = .next ((s.taken 0x21#8).replied 0x21#8 .notSet))
          ∧ ((s.route route.toNat).state ≠ .free → originOf origin ≠ .auto →
            (s.route route.toNat).origin ≠ some (originOf origin) → s.ownsEntry (originOf origin) r = false →
            exec (.routeCancel route origin) s = .next ((s.taken 0x21#8).replied 0x21#8 .noAuthority))
          ∧ (originOf origin = .auto ∨ (s.route route.toNat).origin = some (originOf origin)
              ∨ s.ownsEntry (originOf origin) r = true →
            ((s.route route.toNat).forced = false → (s.route route.toNat).state = .inUse →
              exec (.routeCancel route origin) s = .next ((s.taken 0x21#8).replied 0x21#8 .inUse))
            ∧ (s.Rested → (s.route route.toNat).state = .approachLocked ∨ (s.route route.toNat).state = .restoring
                ∨ ((s.route route.toNat).forced = true ∧ (s.route route.toNat).state ≠ .free) →
              exec (.routeCancel route origin) s = .next ((s.taken 0x21#8).settled.replied 0x21#8 .ok))
            ∧ (s.NothingDue → s.NoVisitors → s.mode = .running → (s.route route.toNat).forced = false →
              (s.route route.toNat).state = .held → s.rie.heldQueue = [route.toNat] →
              ∃ t, exec (.routeCancel route origin) s = .next t ∧ t.Answers 0x21#8 .ok
              ∧ t.route route.toNat = { cause := .cancelled } ∧ t.rie.heldQueue = [] ∧ t.rie.locks = s.rie.locks
              ∧ t.pts = s.pts ∧ t.ttc = s.ttc)
            ∧ (s.NothingDue → s.NoVisitors → s.mode = .running → (s.route route.toNat).forced = false →
              (s.route route.toNat).state = .held →
              (∀ q ∈ s.rie.heldQueue, q ≠ route.toNat → (s.route q).state = .held
                ∧ s.routeCheck ((s.route q).origin.getD .auto) q ≠ .noAuthority
                ∧ s.conflict q ((s.route q).origin.getD .auto) ≠ none) →
              ∃ t, exec (.routeCancel route origin) s = .next t ∧ t.Answers 0x21#8 .ok
              ∧ t.route route.toNat = { cause := .cancelled }
              ∧ t.rie.heldQueue = s.rie.heldQueue.filter (· != route.toNat)
              ∧ (∀ q ∈ s.rie.heldQueue, q ≠ route.toNat → t.route q
                = { s.route q with heldReason := s.conflict q ((s.route q).origin.getD .auto) })
              ∧ t.rie.locks = s.rie.locks ∧ t.pts = s.pts ∧ t.ttc = s.ttc)
            ∧ (∀ c e, s.Quiet → (s.route route.toNat).forced = false → (s.route route.toNat).state = .setting →
              s.context (s.route route.toNat).context = c → c.phase = .setting → c.route = route.toNat →
              e ∈ c.journal → e.outcome = .pending →
              (∀ p lie prev o, e.target = .point p lie prev → (s.point p).order = some o → o.phase ≠ .waiting) →
              ∃ t, exec (.routeCancel route origin) s = .next t ∧ t.Answers 0x21#8 .accepted
              ∧ (t.route route.toNat).state = .restoring ∧ (t.route route.toNat).cause = .cancelled
              ∧ (t.context (s.route route.toNat).context).phase = .draining
              ∧ (t.context (s.route route.toNat).context).failure = some .cancelled
              ∧ (t.context (s.route route.toNat).context).route = route.toNat
              ∧ e ∈ (t.context (s.route route.toNat).context).journal
              ∧ t.rie.locks = s.rie.locks ∧ t.rie.holders = s.rie.holders ∧ t.ttc = s.ttc)
            ∧ (s.Quiet → (s.route route.toNat).forced = false → (s.route route.toNat).state = .locked →
              (s.route route.toNat).fleet = true → (s.route route.toNat).passed = true →
              (s.route route.toNat).overlapReleased = false → (s.route route.toNat).released = [] →
              ∃ t, exec (.routeCancel route origin) s = .next t ∧ t.Answers 0x21#8 .ok
              ∧ (t.route route.toNat).state = .inUse ∧ (t.route route.toNat).fleet = false
              ∧ (t.route route.toNat).cause = .cancelled
              ∧ (t.route route.toNat).seen
                = (List.range ((s.occupiedPositions route.toNat).getLastD 0)).map (· + 1)
              ∧ t.rie.entryHolders = s.rie.entryHolders ∧ t.pts = s.pts)
            ∧ (s.Quiet → (s.route route.toNat).forced = false → (s.route route.toNat).state = .locked →
              (s.route route.toNat).fleet = false ∨ (s.route route.toNat).passed = false →
              ((s.route route.toNat).clearedOnce = false ∨ s.allClear r.approach = true ∨ r.approachTime = 0 →
                (s.route route.toNat).released = [] → (s.route route.toNat).overlapReleased = false →
                ∃ t, exec (.routeCancel route origin) s = .next t ∧ t.Answers 0x21#8 .ok
                ∧ t.route route.toNat = { cause := .cancelled } ∧ (∀ x ∈ r.path, t.lock x = {})
                ∧ (∀ x ∈ r.overlap, (t.lock x).holder ≠ route.toNat) ∧ t.entryHolder r.entry ≠ route.toNat
                ∧ t.ttc.deckOwner ≠ route.toNat ∧ t.pts = s.pts ∧ t.td = s.td)
              ∧ ((s.route route.toNat).clearedOnce = true → s.allClear r.approach = false → r.approachTime ≠ 0 →
                ∃ t, exec (.routeCancel route origin) s = .next t ∧ t.Answers 0x21#8 .accepted
                ∧ (t.route route.toNat).state = .approachLocked ∧ (t.route route.toNat).fleet = false
                ∧ (t.route route.toNat).approachTimer = some (s.now + seconds r.approachTime)
                ∧ (t.route route.toNat).cause = .cancelled ∧ t.rie.locks = s.rie.locks
                ∧ t.rie.entryHolders = s.rie.entryHolders ∧ t.rie.holders = s.rie.holders
                ∧ t.pts = s.pts ∧ t.ttc = s.ttc)))))

/-- R85: ROUTE_FORCE_RELEASE: its refusals, the release of a route that stands clear, the marking of the path and overlap
track pieces that are not, and the route that is forced already. -/
def Obligations.RouteForceReleaseByState : Prop :=
  ∀ (route origin : Byte) (s : State), s.Listens →
    (s.railActive = false →
      exec (.routeForceRelease route origin) s = .next ((s.taken 0x22#8).replied 0x22#8 .wrongMode))
    ∧ (s.railActive = true →
      (route.toNat < 1 ∨ 192 < route.toNat ∨ 8 < origin.toNat →
        exec (.routeForceRelease route origin) s = .next ((s.taken 0x22#8).replied 0x22#8 .badValue))
      ∧ (1 ≤ route.toNat → route.toNat ≤ 192 → origin.toNat ≤ 8 →
        (s.routeRec route.toNat = none →
          exec (.routeForceRelease route origin) s = .next ((s.taken 0x22#8).replied 0x22#8 .notFound))
        ∧ ∀ r, s.routeRec route.toNat = some r →
          (originOf origin ≠ .auto → s.ownsEntry (originOf origin) r = false →
            exec (.routeForceRelease route origin) s = .next ((s.taken 0x22#8).replied 0x22#8 .noAuthority))
          ∧ (originOf origin = .auto ∨ s.ownsEntry (originOf origin) r = true →
            ((s.route route.toNat).state = .free ∨ (s.route route.toNat).state = .held →
              exec (.routeForceRelease route origin) s = .next ((s.taken 0x22#8).replied 0x22#8 .notSet))
            ∧ ((s.route route.toNat).state = .setting ∨ (s.route route.toNat).state = .restoring →
              exec (.routeForceRelease route origin) s = .next ((s.taken 0x22#8).replied 0x22#8 .busy))
            ∧ (s.Rested → (s.route route.toNat).state = .locked ∨ (s.route route.toNat).state = .inUse
                ∨ (s.route route.toNat).state = .approachLocked → (s.route route.toNat).forced = true →
              exec (.routeForceRelease route origin) s = .next ((s.taken 0x22#8).settled.replied 0x22#8 .ok))
            ∧ (s.Quiet → (s.route route.toNat).state = .locked ∨ (s.route route.toNat).state = .inUse
                ∨ (s.route route.toNat).state = .approachLocked → (s.route route.toNat).forced = false →
              (s.route route.toNat).released = [] → (s.route route.toNat).overlapReleased = false →
              ∃ t, exec (.routeForceRelease route origin) s = .next t ∧ t.Answers 0x22#8 .ok
              ∧ (∀ x ∈ r.path, s.occupancy x = .clear → t.lock x = {})
              ∧ (∀ x ∈ r.path, s.occupancy x ≠ .clear →
                (t.lock x).releaseOnClear = true ∧ (t.lock x).holder = (s.lock x).holder)
              ∧ (∀ x ∈ r.overlap, x ∉ r.path → (s.lock x).holder = route.toNat →
                (s.occupancy x = .clear → t.lock x = {})
                ∧ (s.occupancy x ≠ .clear →
                  (t.lock x).releaseOnClear = true ∧ (t.lock x).holder = route.toNat))
              ∧ ((∃ x ∈ r.path, s.occupancy x ≠ .clear)
                  ∨ (∃ x ∈ r.overlap, x ∉ r.path ∧ (s.lock x).holder = route.toNat ∧ s.occupancy x ≠ .clear) →
                (t.route route.toNat).state = (s.route route.toNat).state
                ∧ (t.route route.toNat).forced = true ∧ (t.route route.toNat).approachTimer = none
                ∧ (t.route route.toNat).overlapTimer = none)
              ∧ (s.allClear r.path = true → s.allClear r.overlap = true →
                t.route route.toNat = { cause := .forced } ∧ t.entryHolder r.entry ≠ route.toNat)
              ∧ t.pts = s.pts ∧ t.td = s.td))))

/-- R74, R103, R105: the expiry of a hold, of an approach timer and of an overlap timer; each brings the time base to its
time (log 2). -/
def Obligations.RouteTimersExpire : Prop :=
  ∀ (q e : Nat) (r : RouteRec) (s : State), s.inReset = false → q ≠ 0 → s.routeRec q = some r →
    (s.NothingDue → s.NoVisitors → s.mode ≠ .stopping → (s.route q).state = .held → (s.route q).hold = .runs e →
      s.rie.heldQueue = [q] →
      ∃ t, exec (.heldExpiry q) s = .next t ∧ t.now = max s.now e ∧ t.route q = { cause := .expired }
      ∧ t.rie.heldQueue = [] ∧ t.rie.locks = s.rie.locks ∧ t.pts = s.pts ∧ t.ttc = s.ttc
      ∧ ∃ l, t.hl = s.hl.raised (heldExpiredRecord q (s.route q) :: routeRecord q .free .held .expired :: l))
    ∧ (s.Quiet → (s.route q).state = .approachLocked → (s.route q).approachTimer = some e →
      (s.route q).released = [] → (s.route q).overlapReleased = false →
      ∃ t, exec (.approachTimerExpired q) s = .next t ∧ t.now = max s.now e ∧ t.route q = { cause := .approachExpired }
      ∧ (∀ x ∈ r.path, t.lock x = {}) ∧ (∀ x ∈ r.overlap, (t.lock x).holder ≠ q) ∧ t.entryHolder r.entry ≠ q
      ∧ t.pts = s.pts)
    ∧ (s.Quiet → (s.route q).overlapTimer = some e → s.heldPositions q ≠ [] →
      ∃ t, exec (.overlapTimerExpired q) s = .next t ∧ t.now = max s.now e
      ∧ (t.route q).state = (s.route q).state ∧ (t.route q).overlapReleased = true ∧ (t.route q).overlapTimer = none
      ∧ (∀ x ∈ r.overlap, (t.lock x).holder ≠ q) ∧ (∀ x, (s.lock x).holder ≠ q → t.lock x = s.lock x)
      ∧ t.rie.entryHolders = s.rie.entryHolders ∧ t.pts = s.pts ∧ t.ttc = s.ttc)

/-- R86, R100, R101, R104, R105, R106: what an answer of a DETECT node that changes one track piece does to the route that
holds it: entry to IN_USE with the SPAD test before it, a track piece that tells the route nothing, sequential release and
the release of the last piece, the overlap timer, a fleet route's passed, and a marked piece of a forced route. That
SECTION_STATE comes before RIE's records is log 9's choice. -/
def Obligations.TrainThroughARoute : Prop :=
  ∀ (x : Exchange) (l : List Bool) (k q pos : Nat) (old new : Occupancy) (r : RouteRec) (w : RouteWork) (s : State)
    (spad : List EventRec), s.OneChange x l k new → s.Quiet → (s.lock k).holder = q → old = s.occupancy k →
    w = s.route q → pos = s.pathPosition q k →
    spad = (if old = .clear ∧ (s.signal r.entry).commanded = .danger then
      [eventOf .signalPassedAtDanger .alarms r.entry q k w.state.code] else []) →
    ∃ t, exec (s.answer x (.detect l)) s = .next t ∧ t.occupancy k = new
    ∧ (s.railActive = false ∨ q = 0 → t.rie.locks = s.rie.locks ∧ ∀ j, (t.route j).state = (s.route j).state)
    ∧ (s.railActive = true → q ≠ 0 → s.routeRec q = some r →
      (w.forced = false → (w.state = .locked ∧ w.fleet = false) ∨ w.state = .approachLocked →
        (pos = 1 → new = .occupied → r.path.tail ≠ [] → k ∉ r.path.tail →
          (∀ j ∈ r.path.tail, s.occupancy j ≠ .occupied) →
          t.route q = { w with state := .inUse, seen := [1], approachTimer := none, cause := .trainEntered }
          ∧ t.rie.locks = s.rie.locks ∧ ∃ m, t.hl = s.hl.raised (trackRecord (k, old, new) :: spad
              ++ routeRecord q .inUse w.state .trainEntered :: m))
        ∧ (pos = 1 → new = .occupied → r.path.tail = [] → w.overlapReleased = false →
          (t.route q).state = .inUse ∧ (t.route q).seen = [1] ∧ (t.route q).cause = .trainEntered
          ∧ (r.overlapTime ≠ 0 → (t.route q).overlapTimer = some (s.now + seconds r.overlapTime)
            ∧ t.rie.locks = s.rie.locks)
          ∧ (r.overlapTime = 0 → (t.route q).overlapReleased = true ∧ ∀ j ∈ r.overlap, (t.lock j).holder ≠ q))
        ∧ (pos ≠ 1 ∨ new ≠ .occupied → t.rie.locks = s.rie.locks ∧ (t.route q).state = w.state
          ∧ (t.route q).seen = w.seen))
      ∧ (w.forced = false → w.state = .inUse →
        (pos ≠ 0 → new = .occupied → pos ∉ w.released → (t.route q).state = .inUse
          ∧ (∀ j, j ∈ (t.route q).seen ↔ j = pos ∨ j ∈ w.seen) ∧ (k ∉ r.overlap → (t.lock k).holder = q)
          ∧ (pos ≠ r.path.length → (t.route q).overlapTimer = w.overlapTimer)
          ∧ (pos = r.path.length → w.overlapReleased = false →
            (r.overlapTime ≠ 0 → (t.route q).overlapTimer = some (s.now + seconds r.overlapTime))
            ∧ (r.overlapTime = 0 → (t.route q).overlapReleased = true)))
        ∧ (∀ next, new = .clear → (s.heldPositions q).head? = some pos → pos ∈ w.seen → r.path[pos]? = some next →
          next ≠ k → s.occupancy next = .occupied →
          t.lock k = {} ∧ (∀ j, j ≠ k → t.lock j = s.lock j) ∧ (t.route q).state = .inUse
          ∧ (∀ j, j ∈ (t.route q).released ↔ j = pos ∨ j ∈ w.released)
          ∧ ∀ y ∈ r.reqs, y.release = pos → ∀ h ∈ t.holders y.point, h.1 ≠ q)
        ∧ (new = .clear → s.heldPositions q = [pos] → pos = r.path.length → pos ∈ w.seen → w.overlapReleased = false →
          t.route q = { cause := .released } ∧ t.lock k = {} ∧ (∀ j ∈ r.overlap, (t.lock j).holder ≠ q)
          ∧ t.entryHolder r.entry ≠ q ∧ t.ttc.deckOwner ≠ q
          ∧ ∃ m, t.hl = s.hl.raised (trackRecord (k, old, new) :: routeRecord q .free .inUse .released :: m))
        ∧ (pos ≠ 0 → pos = r.path.length → new = .clear → (t.route q).overlapTimer = none)
        ∧ (pos = 0 → t.rie.locks = s.rie.locks ∧ t.route q = w))
      ∧ (w.forced = false → w.state = .locked → w.fleet = true → t.rie.locks = s.rie.locks ∧ (t.route q).state = .locked
        ∧ (pos = 1 → new = .occupied → (t.route q).passed = true
          ∧ ∃ m, t.hl = s.hl.raised (trackRecord (k, old, new) :: spad ++ m))
        ∧ (pos ≠ 0 → w.passed = true → new = .clear → (∀ j ∈ r.path, j ≠ k → s.occupancy j = .clear) →
          (t.route q).passed = false)
        ∧ (pos = 0 ∨ (pos ≠ 1 ∧ new = .occupied) → (t.route q).passed = w.passed))
      ∧ (w.forced = true →
        ((s.lock k).releaseOnClear = false ∨ new ≠ .clear → t.rie.locks = s.rie.locks ∧ (t.route q).state = w.state)
        ∧ ((s.lock k).releaseOnClear = true → new = .clear →
          ((∃ j ∈ s.heldPositions q, j ≠ pos) → t.lock k = {} ∧ (∀ j ∈ r.path, j ≠ k → t.lock j = s.lock j)
            ∧ (t.route q).state = w.state)
          ∧ (pos ≠ 0 → s.heldPositions q = [pos] → w.overlapReleased = true →
            t.route q = { cause := .forced } ∧ t.lock k = {} ∧ t.entryHolder r.entry ≠ q))))

/-- R73: the re-scan of the held-request queue: an entry without authority leaves it, an entry that still conflicts stays
with its reason, and an entry without a conflict is admitted. -/
def Obligations.HeldRouteRescanExamines : Prop :=
  ∀ s : State, s.inReset = false → s.NothingDue → s.NoVisitors → s.mode = .running →
    ((∀ q ∈ s.rie.heldQueue, (s.route q).state = .held
        ∧ s.routeCheck ((s.route q).origin.getD .auto) q ≠ .noAuthority
        ∧ s.conflict q ((s.route q).origin.getD .auto) ≠ none) →
      ∃ t, exec .heldRouteRescan s = .next t ∧ t.rie.heldQueue = s.rie.heldQueue ∧ t.rie.locks = s.rie.locks
      ∧ (∀ q ∈ s.rie.heldQueue, t.route q
        = { s.route q with heldReason := s.conflict q ((s.route q).origin.getD .auto) })
      ∧ (∀ q, q ∉ s.rie.heldQueue → t.route q = s.route q) ∧ t.pts = s.pts ∧ t.ttc = s.ttc ∧ t.hl = s.hl)
    ∧ ∀ q, s.rie.heldQueue = [q] → (s.route q).state = .held →
      (s.routeCheck ((s.route q).origin.getD .auto) q = .noAuthority →
        ∃ t, exec .heldRouteRescan s = .next t ∧ t.rie.heldQueue = [] ∧ t.route q = { cause := .noAuthority }
        ∧ t.rie.locks = s.rie.locks ∧ t.pts = s.pts ∧ t.ttc = s.ttc)
      ∧ ∀ r, s.routeCheck ((s.route q).origin.getD .auto) q ≠ .noAuthority →
        s.conflict q ((s.route q).origin.getD .auto) = none → s.routeRec q = some r → r.deck = none →
        (∀ x ∈ r.reqs, s.liesAt x.point x.lie = true) →
        ∃ t, exec .heldRouteRescan s = .next t ∧ t.rie.heldQueue = [] ∧ (t.route q).state = .locked
        ∧ (t.route q).origin = some ((s.route q).origin.getD .auto) ∧ (t.route q).fleet = (s.route q).fleet
        ∧ (∀ x ∈ r.path ++ r.overlap, (t.lock x).holder = q) ∧ t.entryHolder r.entry = q ∧ t.pts = s.pts

/-- R82, R83: a drained context unwinds: where no entry can be put back the route is given back whole and the context is
free; an entry that can be put back orders its previous lie, and the holders list follows it. -/
def Obligations.RestoreUnwindsTheJournal : Prop :=
  ∀ (n : Nat) (c : Context) (r : RouteRec) (s : State), s.inReset = false → s.Quiet → s.mode = .running →
    s.context n = c → c.phase = .draining → c.route ≠ 0 → s.routeRec c.route = some r →
    (∀ e ∈ c.journal, e.outcome ≠ .pending) →
    ((∀ e ∈ c.journal, s.restorable c.route e = none ∧ (e.isTable = true → e.outcome ≠ .aligned)) →
      (s.route c.route).released = [] → (s.route c.route).overlapReleased = false →
      ∃ t, exec (.restoreUnwind n) s = .next t ∧ t.context n = {}
      ∧ t.route c.route = { cause := c.failure.getD .none } ∧ (∀ x ∈ r.path, t.lock x = {})
      ∧ (∀ x ∈ r.overlap, (t.lock x).holder ≠ c.route) ∧ t.entryHolder r.entry ≠ c.route ∧ t.pts = s.pts)
    ∧ ∀ e p lie prev, c.journal = [e] → e.target = .point p lie (some prev) → e.outcome = .complete → prev ≠ lie →
      (s.holders p).all (fun h => h.1 == c.route) = true → (s.point p).order = none → (s.pointNode p).isLost = false →
      ∃ t, exec (.restoreUnwind n) s = .next t
      ∧ t.context n = { c with phase := .unwinding, journal := [{ e with restore := .placed }] }
      ∧ (∃ o, (t.point p).order = some o ∧ o.lie = prev ∧ o.cause = .restore ∧ o.requesters = [.context n])
      ∧ t.holders p = (s.holders p).map (fun _ => (c.route, prev)) ∧ t.rie.locks = s.rie.locks
      ∧ (t.route c.route).state = (s.route c.route).state

/-- R78 to R83, R76, R77: the reports that reach a setting context: a failed order sends its route to RESTORING with the
order's cause, and the route is given back once nothing is pending, waits for an order in flight, and takes a queued order
with it; the last order that completes, and a move that ends ALIGNED as ordered, lock the route; a move that ends in FAULT
sends it to RESTORING; and a placement that fails at once does so in the admission. That the one ROUTE_STATE of that admission
has FREE as its previous state is log 11's choice; that each expiry brings the time base to its time is log 2's. -/
def Obligations.ContextReports : Prop :=
  (∀ (route origin options : Byte) (limit : BitVec 16) (r : RouteRec) (y : Requirement) (n : Nat) (s : State),
    s.Listens → s.Quiet → s.mode = .running → 1 ≤ route.toNat → route.toNat ≤ 192 → origin.toNat ≤ 8 →
    s.routeRec route.toNat = some r → (options.getLsbD 1 = true → r.cls = .main) → (s.route route.toNat).state = .free →
    s.routeCheck (originOf origin) route.toNat ≠ .noAuthority → s.conflict route.toNat (originOf origin) = none →
    r.reqs = [y] → s.liesAt y.point y.lie = false → (s.point y.point).order = none →
    (s.pointNode y.point).isLost = true → s.freeContext = some n →
    ∃ t m, exec (.routeSet route origin options limit) s = .next t ∧ t.Answers 0x20#8 .accepted
    ∧ t.route route.toNat = { cause := .nodeLost } ∧ t.context n = {} ∧ (t.point y.point).failed = true
    ∧ (∀ j ∈ r.path, t.lock j = {}) ∧ t.entryHolder r.entry ≠ route.toNat
    ∧ t.hl.queue = (s.hl.raised (eventOf .pointFailed .points y.point (lieCode y.lie) 3 (s.detected y.point).code
        :: routeRecord route.toNat .restoring .free .nodeLost :: m)).queue)
  ∧ ∀ (n q p e : Nat) (c : Context) (i : JournalEntry) (r : RouteRec) (s : State), s.inReset = false → s.Quiet →
    s.mode = .running → 1 ≤ n → s.context n = c → c.phase = .setting → c.route = q → q ≠ 0 → s.routeRec q = some r →
    (s.route q).state = .setting → (s.route q).released = [] → (s.route q).overlapReleased = false →
    i.outcome = .pending →
    (∀ (pr : PointRec) (o : Order) (lie : Lie) (prev : Option Lie) (f : RouteCause), s.pointRec p = some pr →
      (s.point p).order = some o → o.phase ≠ .waiting → o.limitAt = some e → o.requesters = [.context n] →
      i.target = .point p lie prev → f = (if o.phase = .sent then .noAck else .timeout) →
      (c.journal = [i] →
        ∃ t, exec (.throwLimitExpired p) s = .next t ∧ t.context n = {} ∧ t.route q = { cause := f }
        ∧ (∀ j ∈ r.path, t.lock j = {}) ∧ (∀ j ∈ r.overlap, (t.lock j).holder ≠ q) ∧ t.entryHolder r.entry ≠ q
        ∧ (t.point p).order = none ∧ (t.point p).failed = true ∧ t.ttc.deckOwner ≠ q
        ∧ ∃ m, t.hl = s.hl.raised (eventOf .pointFailed .points p (lieCode o.lie) (if o.phase = .sent then 1 else 2)
            (s.detected p).code :: routeRecord q .restoring .setting f :: m))
      ∧ (∀ i' p' lie' prev', c.journal = [i, i'] → i'.target = .point p' lie' prev' → i'.outcome = .pending → p' ≠ p →
        (∀ o', (s.point p').order = some o' → o'.phase ≠ .waiting → p' ∉ s.pts.queue →
          ∃ t, exec (.throwLimitExpired p) s = .next t
          ∧ t.context n = { c with
              phase := .draining, failure := some f, journal := [{ i with outcome := .failed }, i'] }
          ∧ (t.route q).state = .restoring ∧ (t.route q).cause = f ∧ t.rie.locks = s.rie.locks
          ∧ t.rie.holders = s.rie.holders ∧ t.rie.entryHolders = s.rie.entryHolders
          ∧ (t.point p').order = some o')
        ∧ ∀ o', (s.point p').order = some o' → o'.phase = .waiting → o'.requesters = [.context n] → o'.cause = .setting →
          pr.driveKind = .solenoid →
          ∃ t, exec (.throwLimitExpired p) s = .next t ∧ (t.point p').order = none ∧ p' ∉ t.pts.queue
          ∧ t.context n = {} ∧ t.route q = { cause := f } ∧ (∀ j ∈ r.path, t.lock j = {})
          ∧ t.entryHolder r.entry ≠ q))
    ∧ (∀ (x : Exchange) (out : List (DriveCommand × Nat)) (a : List ContactReading) (pr : PointRec) (v : ContactReading)
        (o : Order) (prev : Option Lie), s.OnePoint x out a p pr v → s.NothingAwaited out p pr v →
      (s.point p).order = some o → o.phase = .driving ∨ o.phase = .proving → o.requesters = [.context n] →
      i.target = .point p o.lie prev → c.journal = [i] → (s.detectedAfter p (contactClass v)).lie? = some o.lie →
      s.lieOf p ≠ some o.lie →
      ∃ t, exec (s.answer x (.point a)) s = .next t ∧ t.point p = (s.point p).completed pr o ∧ t.context n = {}
      ∧ (t.route q).state = .locked ∧ (t.route q).cause = .complete ∧ (t.route q).context = 0
      ∧ t.rie.locks = s.rie.locks ∧ t.rie.holders = s.rie.holders ∧ t.rie.entryHolders = s.rie.entryHolders)
    ∧ (∀ (tt : TurntableRec) (m : Move) (prev : Option (Nat × DeckEnd)), s.tables.turntable = some tt →
      s.ttc.move = some m → m.context = n → i.target = .table m.road m.deckEnd prev → c.journal = [i] →
      (s.ttc.state = .settling → s.ttc.settleAt = some e → tt.boltPresent = false → m.road ≠ 0 →
        s.tables.faced s.ttc.p m.deckEnd = m.road →
        ∃ t, exec .settleExpired s = .next t ∧ t.ttc.state = .aligned ∧ t.ttc.face m.deckEnd = m.road
        ∧ t.ttc.move = none ∧ t.context n = {} ∧ (t.route q).state = .locked ∧ (t.route q).cause = .complete
        ∧ (t.route q).context = 0 ∧ t.rie.locks = s.rie.locks ∧ t.pts = s.pts)
      ∧ (s.ttc.state = .unbolting → s.ttc.boltAt = some e →
        ∃ t, exec .boltTimerExpired s = .next t ∧ t.ttc.state = .fault ∧ t.ttc.move = none ∧ t.context n = {}
        ∧ t.route q = { cause := .tableFault } ∧ (∀ j ∈ r.path, t.lock j = {}) ∧ t.entryHolder r.entry ≠ q
        ∧ t.ttc.deckOwner ≠ q ∧ t.pts = s.pts))

/-! ## PTS -/

/-- R51, R41: POINT_THROW, each case in its place; an order placed, and an order that fails at once on a lost node: that
nothing but `failed` then changes in the point's record is log 10's choice. -/
def Obligations.PointThrowCases : Prop :=
  ∀ (point lie origin : Byte) (s : State), s.Listens →
    (s.mode ≠ .running → exec (.pointThrow point lie origin) s = .next ((s.taken 0x28#8).replied 0x28#8 .wrongMode))
    ∧ (s.mode = .running →
      (point.toNat < 1 ∨ 64 < point.toNat ∨ (lie.toNat ≠ 1 ∧ lie.toNat ≠ 2) ∨ 8 < origin.toNat →
        exec (.pointThrow point lie origin) s = .next ((s.taken 0x28#8).replied 0x28#8 .badValue))
      ∧ ∀ l, 1 ≤ point.toNat → point.toNat ≤ 64 → lieOf lie = some l → origin.toNat ≤ 8 →
        (s.pointRec point.toNat = none →
          exec (.pointThrow point lie origin) s = .next ((s.taken 0x28#8).replied 0x28#8 .notFound))
        ∧ (s.pointRec point.toNat ≠ none →
          (s.pointCheck (originOf origin) point.toNat = .noAuthority →
            exec (.pointThrow point lie origin) s = .next ((s.taken 0x28#8).replied 0x28#8 .noAuthority))
          ∧ (s.pointCheck (originOf origin) point.toNat = .localRelease →
            exec (.pointThrow point lie origin) s = .next ((s.taken 0x28#8).replied 0x28#8 .localRelease))
          ∧ (s.pointCheck (originOf origin) point.toNat = .pass →
            (s.holders point.toNat ≠ [] →
              exec (.pointThrow point lie origin) s = .next ((s.taken 0x28#8).replied 0x28#8 .held))
            ∧ (s.holders point.toNat = [] →
              ((s.point point.toNat).order ≠ none →
                exec (.pointThrow point lie origin) s = .next ((s.taken 0x28#8).replied 0x28#8 .busy))
              ∧ ((s.point point.toNat).order = none →
                (s.Rested → s.liesAt point.toNat l = true →
                  exec (.pointThrow point lie origin) s = .next ((s.taken 0x28#8).settled.replied 0x28#8 .ok))
                ∧ (s.Quiet → s.liesAt point.toNat l = false → (s.pointNode point.toNat).isLost = false →
                  ∃ t o, exec (.pointThrow point lie origin) s = .next t ∧ t.Answers 0x28#8 .accepted
                  ∧ (t.point point.toNat).order = some o ∧ o.lie = l ∧ o.cause = .individual
                  ∧ o.requesters = [.origin (originOf origin)] ∧ o.placedAt = s.now
                  ∧ (t.point point.toNat).commanded = (s.point point.toNat).commanded
                  ∧ t.rie = s.rie ∧ t.flc = s.flc ∧ t.ttc = s.ttc ∧ t.td = s.td ∧ t.dat = s.dat)
                ∧ (s.Quiet → s.liesAt point.toNat l = false → (s.pointNode point.toNat).isLost = true →
                  ∃ t, exec (.pointThrow point lie origin) s = .next t ∧ t.Answers 0x28#8 .accepted
                  ∧ t.point point.toNat = { s.point point.toNat with failed := true }
                  ∧ t.hl.queue = (s.hl.raised [eventOf .pointFailed .points point.toNat (lieCode l) 3
                      (s.detected point.toNat).code]).queue
                  ∧ t.rie = s.rie ∧ t.flc = s.flc ∧ t.ttc = s.ttc))))))

/-- R48: the limit of a throw without a context arrives: NO_ACK in SENT and TIMEOUT later; the point has failed, its
order is gone, its commanded lie stands, a solenoid's command is NONE with number 0 and a motor's is STOP with the next
number. That the expiry brings the time base to the limit is log 2's choice; that a motor that fails in SENT is stopped too,
and that a solenoid's slot is kept from the failure on, is log 10's. -/
def Obligations.ThrowLimitFailsTheOrder : Prop :=
  ∀ (p e : Nat) (r : PointRec) (o : Order) (s : State), s.inReset = false → s.Quiet → s.pointRec p = some r →
    (s.point p).order = some o → o.phase ≠ .waiting → o.limitAt = some e →
    (∀ q ∈ o.requesters, ∃ d, q = .origin d) →
    ∃ t, exec (.throwLimitExpired p) s = .next t ∧ t.now = max s.now e
    ∧ (t.point p).order = none ∧ (t.point p).failed = true ∧ (t.point p).commanded = (s.point p).commanded
    ∧ (r.driveKind = .solenoid → o.phase = .sent → (t.point p).driveCommand = .none ∧ (t.point p).commandNumber = 0
      ∧ ∀ n, 1 ≤ n → n ≤ 4 → s.slot n = .busy p none →
        t.slot n = .busy p (some (max s.now e + ms r.pulseMs + ms s.general.rechargeMs)))
    ∧ (r.driveKind = .motor → (t.point p).driveCommand = .stop
      ∧ (t.point p).commandNumber = (if (s.point p).lastNumber = 255 then 1 else (s.point p).lastNumber + 1))
    ∧ t.hl.queue = (s.hl.raised [eventOf .pointFailed .points p (lieCode o.lie)
        (if o.phase = .sent then 1 else 2) (s.detected p).code]).queue
    ∧ t.rie = s.rie ∧ t.flc = s.flc ∧ t.ttc = s.ttc ∧ t.td = s.td ∧ t.dat = s.dat

/-- R43, R44, R45: a released slot is free; the oldest order whose node is ONLINE goes into a free slot, and its command
carries the next number, 255 being followed by 1. That the release brings the time base to its time is log 2's choice. -/
def Obligations.SlotsTakeTheOldestOrder : Prop :=
  ∀ (n p : Nat) (r : PointRec) (o : Order) (s : State), s.inReset = false → s.Rested →
    (∀ e q, s.slot n = .busy q (some e) → s.eligibleOrder = none →
      exec (.slotRelease n) s = .next (((s.reach e).setSlot n .free).settled))
    ∧ (∀ e q, s.slot n = .busy q (some e) → 1 ≤ n → n ≤ s.general.driveBudget →
      (∀ k, 1 ≤ k → k ≤ s.general.driveBudget → k ≠ n → s.slot k ≠ .free) → s.eligibleOrder = some p →
      s.pointRec p = some r → (s.point p).order = some o → s.mode ≠ .stopping →
      ∃ t, exec (.slotRelease n) s = .next t ∧ t.now = max s.now e ∧ t.slot n = .busy p none
      ∧ t.point p = { s.point p with
          order := some { o with phase := .sent, takenAt := some t.now,
                                 limitAt := some (t.now + tenths r.throwLimit) },
          driveCommand := (match r.driveKind with
            | .solenoid => .pulse o.lie (40 + 20 * r.pulseCode.getD 0)
            | .motor => .run o.lie),
          commandNumber := (if (s.point p).lastNumber = 255 then 1 else (s.point p).lastNumber + 1),
          lastNumber := (if (s.point p).lastNumber = 255 then 1 else (s.point p).lastNumber + 1) }
      ∧ p ∉ t.pts.queue ∧ t.rie = s.rie ∧ t.flc = s.flc ∧ t.ttc = s.ttc)
    ∧ (s.freeSlot = some n → s.eligibleOrder = some p → s.pointRec p = some r → (s.point p).order = some o →
      s.mode ≠ .stopping →
      ∃ t, exec .throwOrderTaken s = .next t ∧ t.now = s.now ∧ t.slot n = .busy p none ∧ p ∉ t.pts.queue
      ∧ (t.point p).order = some { o with
          phase := .sent, takenAt := some s.now, limitAt := some (s.now + tenths r.throwLimit) }
      ∧ (t.point p).commandNumber = (if (s.point p).lastNumber = 255 then 1 else (s.point p).lastNumber + 1)
      ∧ t.rie = s.rie ∧ t.flc = s.flc ∧ t.ttc = s.ttc)

/-! ## SAU -/

/-- R91: a commanded aspect other than DANGER needs every condition of the rule, and deriving a signal gives it that
aspect. -/
def Obligations.ProceedAspectNeedsItsConditions : Prop :=
  ∀ (x : Nat) (s : State),
    (s.aspectOf x ≠ .danger → ∃ rt r, s.routeRec (s.entryHolder x) = some rt ∧ s.signalRec x = some r
      ∧ s.entryHolder x ≠ 0 ∧ s.mode = .running ∧ s.lts.estop = false ∧ (s.route (s.entryHolder x)).state = .locked
      ∧ (∀ q ∈ rt.reqs, (q.lie = .normal → s.detected q.point = .normal)
          ∧ (q.lie = .reverse → s.detected q.point = .reverse))
      ∧ (∀ d, rt.deck = some d → s.ttc.state = .aligned ∧ s.ttc.face d.2 = d.1
          ∧ ∀ tt, s.tables.turntable = some tt → tt.boltPresent = true → s.ttc.boltLevel = true)
      ∧ (s.signal x).reminder = false ∧ (s.route (s.entryHolder x)).forced = false
      ∧ ((s.route (s.entryHolder x)).fleet = true → (s.route (s.entryHolder x)).passed = false)
      ∧ ((s.node r.headNode).state = .online ∨ (s.node r.headNode).state = .missing)
      ∧ (∀ k ∈ rt.path.dropLast, s.occupancy k = .clear))
    ∧ (∀ quiet, ((deriveOne quiet x s).signal x).commanded = s.aspectOf x)

/-- R91 to R96, R99: the aspect of a signal whose conditions all hold, by the class of its route and by its exit, and DANGER
where one fails; the effective aspect and red_out by the head's proving; what deriving a signal changes, the one record it
raises and the class of that record; and the signals in rear that a changed signal takes along. That the signals of one
event are derived in the order of R96 and otherwise rising is log 17's choice. -/
def Obligations.AspectRules : Prop :=
  (∀ (x : Nat) (s : State), (∀ rt r, ¬ s.MayProceed x rt r) → s.aspectOf x = .danger)
  ∧ (∀ (x : Nat) (rt : RouteRec) (r : SignalRec) (s : State), s.MayProceed x rt r →
    (rt.cls = .main →
      ((∃ k ∈ rt.path ++ rt.overlap, s.occupancy k ≠ .clear) → s.aspectOf x = .danger)
      ∧ ((∀ k ∈ rt.path ++ rt.overlap, s.occupancy k = .clear) →
        (rt.exit = 0 → (r.kind = .main2 → s.aspectOf x = .clear)
          ∧ (r.kind = .main3 ∨ r.kind = .main4 → s.aspectOf x = .caution))
        ∧ (rt.exit ≠ 0 → (s.signal rt.exit).redOut = true → s.aspectOf x = .danger)
        ∧ (rt.exit ≠ 0 → (s.signal rt.exit).redOut = false →
          ((s.signal rt.exit).effective = .danger ∨ (s.signal rt.exit).effective = .shunt
              ∨ (s.signal rt.exit).effective = .callOn →
            (r.kind = .main2 → s.aspectOf x = .clear)
            ∧ (r.kind = .main3 ∨ r.kind = .main4 → s.aspectOf x = .caution))
          ∧ ((s.signal rt.exit).effective = .caution →
            (r.kind = .main2 ∨ r.kind = .main3 → s.aspectOf x = .clear)
            ∧ (r.kind = .main4 → s.aspectOf x = .prelimCaution))
          ∧ ((s.signal rt.exit).effective = .prelimCaution ∨ (s.signal rt.exit).effective = .clear →
            s.aspectOf x = .clear))))
    ∧ (rt.cls = .shunt → s.aspectOf x = if ∀ k ∈ rt.path.dropLast, s.occupancy k = .clear then .shunt else .danger)
    ∧ (rt.cls = .callOn → s.aspectOf x =
      if (∀ k ∈ rt.path.dropLast, s.occupancy k = .clear) ∧ (∃ k ∈ rt.path.getLast?, s.occupancy k = .occupied) then .callOn
      else .danger))
  ∧ (∀ w : SignalWork, w.proved .proven = { w with effective := w.commanded, redOut := false }
    ∧ w.proved .notProven = { w with effective := .danger, redOut := true }
    ∧ w.proved .awaited = { w with effective := .danger }
    ∧ w.proved .unknown = { w with effective := .danger, redOut := true })
  ∧ (∀ (x : Nat) (p : Proving) (new : SignalWork) (s d : State),
    p = (if s.aspectOf x = (s.signal x).commanded ∨ s.proving x = .unknown then s.proving x else .awaited) →
    new = ({ s.signal x with commanded := s.aspectOf x } : SignalWork).proved p → d = deriveOne false x s →
    d.signal x = new ∧ d.proving x = p ∧ (∀ y, y ≠ x → d.signal y = s.signal y ∧ d.proving y = s.proving y)
    ∧ (new = s.signal x → d.hl = s.hl)
    ∧ (new ≠ s.signal x → d.hl = s.hl.enqueue
      (eventOf .signalAspect (if (s.signal x).redOut = false ∧ new.redOut = true then .alarms else .signals) x
        (aspectCode new.commanded) (aspectCode new.effective) (yesNoCode new.redOut)))
    ∧ (deriveOne true x s).hl = s.hl
    ∧ ((s.signal x).commanded = .danger → new.commanded ≠ .danger → (d.route (s.entryHolder x)).clearedOnce = true)
    ∧ d.rie.locks = s.rie.locks ∧ d.pts = s.pts ∧ d.ttc = s.ttc ∧ d.td = s.td)
  ∧ ∀ (x : Nat) (p : Proving) (s d : State), d = deriveOne false x (s.setProving x p) →
    (∀ y, y ∈ d.rearSignals x ↔ y ∈ d.tables.signals.keys ∧ d.entryHolder y ≠ 0
      ∧ (d.route (d.entryHolder y)).state = .locked
      ∧ ∃ rt, d.routeRec (d.entryHolder y) = some rt ∧ rt.cls = .main ∧ rt.exit = x)
    ∧ ((d.signal x).effective = (s.signal x).effective → (d.signal x).redOut = (s.signal x).redOut →
      takeProving x p s = d)
    ∧ ((d.signal x).effective ≠ (s.signal x).effective ∨ (d.signal x).redOut ≠ (s.signal x).redOut →
      (∀ y ∈ d.rearSignals x, d.rearSignals y = []) →
      takeProving x p s = (d.rearSignals x).foldl (fun s y => deriveOne false y s) d)

/-- R97: SIGNAL_REMINDER, each case in its place; a reminder that is set holds its signal at DANGER in the same event. -/
def Obligations.SignalReminderCases : Prop :=
  ∀ (x setting origin : Byte) (s : State), s.Listens →
    (s.loopRuns = false →
      exec (.signalReminder x setting origin) s = .next ((s.taken 0x2C#8).replied 0x2C#8 .wrongMode))
    ∧ (s.loopRuns = true →
      (x.toNat < 1 ∨ 64 < x.toNat ∨ 1 < setting.toNat ∨ 8 < origin.toNat →
        exec (.signalReminder x setting origin) s = .next ((s.taken 0x2C#8).replied 0x2C#8 .badValue))
      ∧ (1 ≤ x.toNat → x.toNat ≤ 64 → setting.toNat ≤ 1 → origin.toNat ≤ 8 →
        (s.signalRec x.toNat = none →
          exec (.signalReminder x setting origin) s = .next ((s.taken 0x2C#8).replied 0x2C#8 .notFound))
        ∧ ∀ r, s.signalRec x.toNat = some r →
          (s.districtCheck (originOf origin) r.district = .noAuthority →
            exec (.signalReminder x setting origin) s = .next ((s.taken 0x2C#8).replied 0x2C#8 .noAuthority))
          ∧ (s.districtCheck (originOf origin) r.district = .localRelease →
            exec (.signalReminder x setting origin) s = .next ((s.taken 0x2C#8).replied 0x2C#8 .localRelease))
          ∧ (s.districtCheck (originOf origin) r.district = .pass →
            ((s.signal x.toNat).reminder = decide (setting.toNat = 1) →
              exec (.signalReminder x setting origin) s = .next ((s.taken 0x2C#8).replied 0x2C#8 .ok))
            ∧ (s.Quiet → (s.signal x.toNat).reminder ≠ decide (setting.toNat = 1) →
              ∃ t, exec (.signalReminder x setting origin) s = .next t ∧ t.Answers 0x2C#8 .ok
              ∧ (t.signal x.toNat).reminder = decide (setting.toNat = 1)
              ∧ (setting.toNat = 1 → (t.signal x.toNat).commanded = .danger)
              ∧ (∀ y, y ≠ x.toNat → (t.signal y).reminder = (s.signal y).reminder)
              ∧ (∀ q, (t.route q).state = (s.route q).state) ∧ t.rie.locks = s.rie.locks
              ∧ t.pts = s.pts ∧ t.ttc = s.ttc ∧ t.td = s.td ∧ t.dat = s.dat))))

/-! ## DAT -/

/-- R55: the base check of an origin in a district; and R56, R57, R58: the route check over a touched-district set, and the
check of one district for a point or a place. -/
def Obligations.AccessChecksRule : Prop :=
  (∀ (w : DistrictWork) (d : Nat),
    w.base .auto = true
    ∧ (w.base (.desk d) = true ↔ w.owner = d ∨ w.shared = true ∨ w.owner = 0)
    ∧ (w.base .visitor = true ↔
        w.visitorClass = .opened ∨ (w.visitorClass = .openUnattended ∧ w.owner = 0))
    ∧ (∀ (o : Origin) (n : Nat), ({ w with releaseHolder := n } : DistrictWork).base o = w.base o))
  ∧ ∀ (o : Origin) (q d p : Nat) (r : PointRec) (s : State),
    (s.routeCheck o q = .noAuthority ↔ ∃ x ∈ s.routeSet q, (s.district x).base o = false)
    ∧ (s.routeCheck o q = .localRelease ↔ (∀ x ∈ s.routeSet q, (s.district x).base o = true)
        ∧ ∃ x ∈ s.routeSet q, (s.district x).releaseHolder ≠ 0)
    ∧ ((s.district d).releaseHolder ≠ 0 →
        s.districtCheck o d = if o = .desk (s.district d).releaseHolder then .pass else .localRelease)
    ∧ ((s.district d).releaseHolder = 0 →
        s.districtCheck o d = if (s.district d).base o = true then .pass else .noAuthority)
    ∧ (s.pointRec p = some r → s.pointCheck o p = s.districtCheck o r.district)

/-- R59 to R64: DISTRICT_ASSIGN, DISTRICT_TAKE and DISTRICT_GIVE_BACK where they have their effect, and their refusals in their
order, each case by its condition. A give-back from any origin code is NOT_SET without a release, and NO_AUTHORITY from any code but AUTO and
the desk that holds it: VISITOR is no code of the host (R174). -/
def Obligations.DistrictCommands : Prop :=
  ∀ (district owner shared cls origin : Byte) (s : State), s.Listens →
    (s.loopRuns = false →
      exec (.districtAssign district owner shared cls origin) s = .next ((s.taken 0x30#8).replied 0x30#8 .wrongMode))
    ∧ (s.loopRuns = true → origin.toNat ≠ 0 →
      exec (.districtAssign district owner shared cls origin) s
        = .next ((s.taken 0x30#8).replied 0x30#8 .noAuthority))
    ∧ (s.loopRuns = true → origin.toNat = 0 →
      district.toNat < 1 ∨ 8 < district.toNat ∨ 8 < owner.toNat ∨ 1 < shared.toNat ∨ 2 < cls.toNat →
      exec (.districtAssign district owner shared cls origin) s = .next ((s.taken 0x30#8).replied 0x30#8 .badValue))
    ∧ (∀ sh c, s.loopRuns = true → origin.toNat = 0 → 1 ≤ district.toNat → district.toNat ≤ 8 → owner.toNat ≤ 8 →
      yesNoOf shared = some sh → visitorClassOf cls = some c →
      (((s.district district.toNat).owner = owner.toNat ∧ (s.district district.toNat).shared = sh
          ∧ (s.district district.toNat).visitorClass = c) →
        exec (.districtAssign district owner shared cls origin) s = .next ((s.taken 0x30#8).replied 0x30#8 .ok))
      ∧ (s.Quiet → ¬ ((s.district district.toNat).owner = owner.toNat ∧ (s.district district.toNat).shared = sh
          ∧ (s.district district.toNat).visitorClass = c) →
        exec (.districtAssign district owner shared cls origin) s = .next (((raise
          (eventOf .district .routes district.toNat 1 owner.toNat (visitorClassCode c))
          ((s.taken 0x30#8).setDistrict district.toNat { s.district district.toNat with
            owner := owner.toNat, shared := sh, visitorClass := c })).settled).replied 0x30#8 .ok)))
    ∧ (s.mode ≠ .ready → s.mode ≠ .running →
      exec (.districtTake district origin) s = .next ((s.taken 0x31#8).replied 0x31#8 .wrongMode)
      ∧ exec (.districtGiveBack district origin) s = .next ((s.taken 0x32#8).replied 0x32#8 .wrongMode))
    ∧ (s.mode = .ready ∨ s.mode = .running → district.toNat < 1 ∨ 8 < district.toNat →
      exec (.districtTake district origin) s = .next ((s.taken 0x31#8).replied 0x31#8 .badValue)
      ∧ exec (.districtGiveBack district origin) s = .next ((s.taken 0x32#8).replied 0x32#8 .badValue))
    ∧ (s.mode = .ready ∨ s.mode = .running → 1 ≤ district.toNat → district.toNat ≤ 8 →
      (origin.toNat = 0 ∨ 8 < origin.toNat →
        exec (.districtTake district origin) s = .next ((s.taken 0x31#8).replied 0x31#8 .badValue))
      ∧ (1 ≤ origin.toNat → origin.toNat ≤ 8 → (s.district district.toNat).releaseHolder ≠ 0 →
        exec (.districtTake district origin) s = .next ((s.taken 0x31#8).replied 0x31#8
          (if (s.district district.toNat).releaseHolder = origin.toNat then .duplicate else .localRelease)))
      ∧ (1 ≤ origin.toNat → origin.toNat ≤ 8 → (s.district district.toNat).releaseHolder = 0 →
        (s.district district.toNat).base (.desk origin.toNat) = false →
        exec (.districtTake district origin) s = .next ((s.taken 0x31#8).replied 0x31#8 .noAuthority))
      ∧ (∀ c : Option ResultCode, 1 ≤ origin.toNat → origin.toNat ≤ 8 →
        (s.district district.toNat).releaseHolder = 0 → (s.district district.toNat).base (.desk origin.toNat) = true →
        FirstFailing [
          (∀ e ∈ s.tables.routes, (s.route e.1).state = .setting ∨ (s.route e.1).state = .restoring →
            district.toNat ∉ s.routeSet e.1, .busy),
          (∀ e ∈ s.tables.routes, (s.route e.1).state = .locked ∨ (s.route e.1).state = .inUse
            ∨ (s.route e.1).state = .approachLocked → district.toNat ∉ s.routeSet e.1, .held),
          (∀ e ∈ s.tables.points, e.2.district = district.toNat → (s.point e.1).order = none, .busy),
          (∀ k v, s.deckTrack = some k → s.trackRec k = some v → v.district = district.toNat →
            s.ttc.state ∉ [.homing, .unbolting, .moving, .settling, .bolting], .busy),
          (s.vpc.runner.script = 0 ∨ district.toNat ∉ s.scriptSet s.vpc.runner.script, .busy)] c →
        (∀ code, c = some code → exec (.districtTake district origin) s = .next ((s.taken 0x31#8).replied 0x31#8 code))
        ∧ (c = none → s.Rested → exec (.districtTake district origin) s = .next (((raise
          (eventOf .district .routes district.toNat 2 origin.toNat 0)
          ((s.taken 0x31#8).setDistrict district.toNat { s.district district.toNat with
            releaseHolder := origin.toNat })).settled).replied 0x31#8 .ok)))
      ∧ ((s.district district.toNat).releaseHolder = 0 →
        exec (.districtGiveBack district origin) s = .next ((s.taken 0x32#8).replied 0x32#8 .notSet))
      ∧ ((s.district district.toNat).releaseHolder ≠ 0 → origin.toNat ≠ 0 →
        8 < origin.toNat ∨ origin.toNat ≠ (s.district district.toNat).releaseHolder →
        exec (.districtGiveBack district origin) s = .next ((s.taken 0x32#8).replied 0x32#8 .noAuthority))
      ∧ ∀ c : Option ResultCode, origin.toNat ≤ 8 → (s.district district.toNat).releaseHolder ≠ 0 →
        origin.toNat = 0 ∨ origin.toNat = (s.district district.toNat).releaseHolder →
        FirstFailing [
          ((∀ e ∈ s.tables.points, e.2.district = district.toNat → (s.point e.1).order = none)
            ∧ ∀ k v, s.deckTrack = some k → s.trackRec k = some v → v.district = district.toNat →
              s.ttc.state ∉ [.homing, .unbolting, .moving, .settling, .bolting], .busy),
          (∀ e ∈ s.tables.points, e.2.district = district.toNat →
            s.detected e.1 ≠ .moving ∧ s.detected e.1 ≠ .contactFault ∧ s.detected e.1 ≠ .unknown,
            .pointsNotDetected)] c →
        (∀ code, c = some code →
          exec (.districtGiveBack district origin) s = .next ((s.taken 0x32#8).replied 0x32#8 code))
        ∧ (c = none → s.Quiet → exec (.districtGiveBack district origin) s = .next (((raise
          (eventOf .district .routes district.toNat 3 (s.district district.toNat).releaseHolder origin.toNat)
          ((s.taken 0x32#8).setDistrict district.toNat { s.district district.toNat with
            releaseHolder := 0 })).settled).replied 0x32#8 .ok)))

/-! ## TD -/

/-- R111, R112, R113: TRAIN_INTERPOSE and TRAIN_CANCEL: every refusal, each case in its place, a new record at the lowest free
position, a LOST record reclaimed, be the positions full or not, and a record removed. -/
def Obligations.TrainCommands : Prop :=
  ∀ (code : List Byte) (track direction cls shown origin : Byte) (s : State), s.Listens →
    (s.loopRuns = false →
      exec (.trainInterpose code track direction cls shown origin) s
        = .next ((s.taken 0x38#8).replied 0x38#8 .wrongMode)
      ∧ exec (.trainCancel code origin) s = .next ((s.taken 0x39#8).replied 0x39#8 .wrongMode))
    ∧ (s.loopRuns = true →
      (trainCodeOf code = none →
        exec (.trainInterpose code track direction cls shown origin) s
          = .next ((s.taken 0x38#8).replied 0x38#8 .badValue)
        ∧ exec (.trainCancel code origin) s = .next ((s.taken 0x39#8).replied 0x39#8 .badValue))
      ∧ (8 < origin.toNat →
        exec (.trainInterpose code track direction cls shown origin) s
          = .next ((s.taken 0x38#8).replied 0x38#8 .badValue)
        ∧ exec (.trainCancel code origin) s = .next ((s.taken 0x39#8).replied 0x39#8 .badValue))
      ∧ (trackEndOf direction = none ∨ trainClassOf cls = none ∨ yesNoOf shown = none ∨ track.toNat < 1
          ∨ 128 < track.toNat →
        exec (.trainInterpose code track direction cls shown origin) s
          = .next ((s.taken 0x38#8).replied 0x38#8 .badValue))
      ∧ (∀ k dir c sh, trainCodeOf code = some k → trackEndOf direction = some dir → trainClassOf cls = some c →
        yesNoOf shown = some sh → 1 ≤ track.toNat → track.toNat ≤ 128 → origin.toNat ≤ 8 →
        (s.trackRec track.toNat = none →
          exec (.trainInterpose code track direction cls shown origin) s
            = .next ((s.taken 0x38#8).replied 0x38#8 .notFound))
        ∧ ∀ r, s.trackRec track.toNat = some r →
          (s.districtCheck (originOf origin) r.district = .noAuthority →
            exec (.trainInterpose code track direction cls shown origin) s
              = .next ((s.taken 0x38#8).replied 0x38#8 .noAuthority))
          ∧ (s.districtCheck (originOf origin) r.district = .localRelease →
            exec (.trainInterpose code track direction cls shown origin) s
              = .next ((s.taken 0x38#8).replied 0x38#8 .localRelease)))
      ∧ (∀ k dir c sh r, trainCodeOf code = some k → trackEndOf direction = some dir → trainClassOf cls = some c →
        yesNoOf shown = some sh → 1 ≤ track.toNat → track.toNat ≤ 128 → origin.toNat ≤ 8 →
        s.trackRec track.toNat = some r → s.districtCheck (originOf origin) r.district = .pass →
        (s.occupancy track.toNat ≠ .occupied →
          exec (.trainInterpose code track direction cls shown origin) s
            = .next ((s.taken 0x38#8).replied 0x38#8 .notOccupied))
        ∧ (s.occupancy track.toNat = .occupied → s.trainHolding track.toNat ≠ none →
          exec (.trainInterpose code track direction cls shown origin) s
            = .next ((s.taken 0x38#8).replied 0x38#8 .sectionDescribed))
        ∧ (∀ n w, s.occupancy track.toNat = .occupied → s.trainHolding track.toNat = none → s.trainCoded k = some n →
          s.td.trains.get? n = some w → w.isLost = false →
          exec (.trainInterpose code track direction cls shown origin) s
            = .next ((s.taken 0x38#8).replied 0x38#8 .duplicate))
        ∧ (s.occupancy track.toNat = .occupied → s.trainHolding track.toNat = none → s.trainCoded k = none →
          (∀ n, 1 ≤ n → n ≤ 32 → s.td.trains.get? n ≠ none) →
          exec (.trainInterpose code track direction cls shown origin) s
            = .next ((s.taken 0x38#8).replied 0x38#8 .full))
        ∧ (∀ n, s.Quiet → s.occupancy track.toNat = .occupied → s.trainHolding track.toNat = none →
          (∃ w, s.trainCoded k = some n ∧ s.td.trains.get? n = some w ∧ w.isLost = true)
            ∨ (s.trainCoded k = none ∧ 1 ≤ n ∧ n ≤ 32 ∧ s.td.trains.get? n = none
              ∧ ∀ m, 1 ≤ m → m < n → s.td.trains.get? m ≠ none) →
          ∃ t, exec (.trainInterpose code track direction cls shown origin) s = .next t
          ∧ t.hl.reply = some { kind := 0x38#8, result := .ok, body := .recordPosition n }
          ∧ t.td.trains = s.td.trains.put n {
              code := k, cls := c, footprint := [(track.toNat, dir)], lastTrack := 0, shown := sh,
              origin := originOf origin }
          ∧ (∀ w, 1 ≤ w → w ≤ 12 → t.td.berths.getD w [] = t.berthText w)
          ∧ t.hl.queue = s.hl.queue ∧ t.rie = s.rie ∧ t.flc = s.flc ∧ t.pts = s.pts ∧ t.ttc = s.ttc))
      ∧ ∀ k, trainCodeOf code = some k → origin.toNat ≤ 8 →
        (s.trainCoded k = none →
          exec (.trainCancel code origin) s = .next ((s.taken 0x39#8).replied 0x39#8 .notFound))
        ∧ (∀ n w, s.trainCoded k = some n → s.td.trains.get? n = some w → origin.toNat ≠ 0 →
          originOf origin ≠ w.origin →
          (s.districtCheck (originOf origin) (s.trainDistrict w) = .noAuthority →
            exec (.trainCancel code origin) s = .next ((s.taken 0x39#8).replied 0x39#8 .noAuthority))
          ∧ (s.districtCheck (originOf origin) (s.trainDistrict w) = .localRelease →
            exec (.trainCancel code origin) s = .next ((s.taken 0x39#8).replied 0x39#8 .localRelease)))
        ∧ ∀ n w, s.Quiet → s.trainCoded k = some n → s.td.trains.get? n = some w →
          origin.toNat = 0 ∨ originOf origin = w.origin
            ∨ s.districtCheck (originOf origin) (s.trainDistrict w) = .pass →
          ∃ t, exec (.trainCancel code origin) s = .next t ∧ t.Answers 0x39#8 .ok
          ∧ t.td.trains = s.td.trains.erase n ∧ (∀ b, 1 ≤ b → b ≤ 12 → t.td.berths.getD b [] = t.berthText b)
          ∧ t.hl.queue = s.hl.queue ∧ t.rie = s.rie ∧ t.flc = s.flc ∧ t.pts = s.pts ∧ t.ttc = s.ttc)

/-- R115 to R120, R124: what an answer of a DETECT node that changes one track piece does to the train records: it is the
stepping or the clearing of that piece, with the records of RIE and SAU before TD's own (log 9). A step gives the train the
head and the front end of the step geometry and keeps the newest six entries, by tier 1 or tier 2; no candidate is
UNDESCRIBED and several are TRAIN_AMBIGUOUS; a cleared piece is struck off, a train that backs off its head turns round,
and a train with no entry left is LOST. -/
def Obligations.TrainsStepAndClear : Prop :=
  (∀ (x : Exchange) (l : List Bool) (k : Nat) (new : Occupancy) (s : State), s.OneChange x l k new → s.Quiet →
    ∃ t pre u, exec (s.answer x (.detect l)) s = .next t ∧ (∀ e ∈ pre, e.cls ≠ .trains)
    ∧ u = s.setHl (s.hl.raised pre)
    ∧ (new = .occupied → t.td = (trackOccupied k (s.occupancy k) u).td ∧ t.hl = (trackOccupied k (s.occupancy k) u).hl)
    ∧ (new = .clear → t.td = (trackCleared k u).td ∧ t.hl = (trackCleared k u).hl)
    ∧ t.occupancy k = new ∧ (∀ j, j ≠ k → t.occupancy j = s.occupancy j)
    ∧ t.pts = s.pts ∧ t.dat = s.dat ∧ t.lts = s.lts)
  ∧ ∀ (k n : Nat) (w : TrainWork) (d : TrackEnd) (r u : TrackRec) (s : State), s.td.trains.get? n = some w →
    w.direction = some d →
    (∀ old, old ≠ .clear ∨ s.trainHolding k ≠ none → trackOccupied k old s = s)
    ∧ (s.trainHolding k = none → s.candidates k 1 = [n] →
      (trackOccupied k .clear s).td.trains
        = s.td.trains.put n { w with footprint := ((k, s.newFront w.head d k) :: w.footprint).take 6 }
      ∧ (trackOccupied k .clear s).hl = s.hl.enqueue (eventOf .trainStep .trains n k w.head 1)
      ∧ ∀ b, 1 ≤ b → b ≤ 12 → (trackOccupied k .clear s).td.berths.getD b [] = (trackOccupied k .clear s).berthText b)
    ∧ (s.trainHolding k = none → s.candidates k 1 = [] → s.candidates k 2 = [n] →
      (trackOccupied k .clear s).td.trains
        = s.td.trains.put n { w with footprint := ((k, s.newFront w.head d.other k) :: w.footprint).take 6 }
      ∧ (trackOccupied k .clear s).hl = s.hl.enqueue (eventOf .trainStep .trains n k w.head 2))
    ∧ (s.trainHolding k = none → s.candidates k 1 = [] → s.candidates k 2 = [] →
      trackOccupied k .clear s = raise (eventOf .undescribed .trains k) s)
    ∧ (∀ c, 2 ≤ c.length → s.trainHolding k = none →
      s.candidates k 1 = c ∨ (s.candidates k 1 = [] ∧ s.candidates k 2 = c) →
      trackOccupied k .clear s = raise (eventOf .trainAmbiguous .trains k c.length) s)
    ∧ (s.trackRec w.head = some r → s.trackRec k = some u →
      (∀ j, r.link d = .track j →
        (u.endA.names w.head = true → s.newFront w.head d k = .b)
        ∧ (u.endA.names w.head = false → u.endB.names w.head = true → s.newFront w.head d k = .a))
      ∧ (∀ p a b, r.link d = .point p a b →
        (u.endA = .track w.head → s.newFront w.head d k = .b)
        ∧ (u.endA ≠ .track w.head → u.endB = .track w.head → s.newFront w.head d k = .a))
      ∧ (∀ e, r.link d = .table 0 → e = (if s.roadTrackFaced .end1 = some w.head then 1 else 2) →
        (u.endA = .table e → s.newFront w.head d k = .b)
        ∧ (u.endA ≠ .table e → u.endB = .table e → s.newFront w.head d k = .a))
      ∧ (∀ e, e ≠ 0 → r.link d = .table e →
        (u.endA = .table 0 → s.newFront w.head d k = .b)
        ∧ (u.endA ≠ .table 0 → u.endB = .table 0 → s.newFront w.head d k = .a)))
    ∧ (s.trainHolding k = none → trackCleared k s = s)
    ∧ (s.trainHolding k = some n →
      (w.head ≠ k → (trackCleared k s).td.trains
          = s.td.trains.put n { w with footprint := w.footprint.filter fun e => e.1 != k }
        ∧ (trackCleared k s).hl = s.hl)
      ∧ (∀ f more, w.head = k → w.footprint.tail.filter (fun e => e.1 != k) = f :: more →
        (trackCleared k s).td.trains = s.td.trains.put n { w with footprint := (f.1, f.2.other) :: more }
        ∧ (trackCleared k s).hl = s.hl
        ∧ ∀ b, 1 ≤ b → b ≤ 12 → (trackCleared k s).td.berths.getD b [] = (trackCleared k s).berthText b)
      ∧ (w.head = k → w.footprint.tail.filter (fun e => e.1 != k) = [] →
        (trackCleared k s).td.trains = s.td.trains.put n { w with footprint := [], lastTrack := k }
        ∧ (trackCleared k s).hl = s.hl.enqueue (eventOf .trainLost .trains n k)))

/-! ## The queries of every block -/

/-- R30, R52, R65, R87, R98: the queries by number: BAD_VALUE outside the range, NOT_FOUND for an absent record, and
otherwise the fields the rules name; nothing changes. NODE_STATUS lists, channel by channel, every track piece, point and
head assigned to the node. -/
def Obligations.RecordQueriesReport : Prop :=
  ∀ (x : Byte) (s : State), s.Listens →
    (exec (.routeStatus x) s = .next ((s.taken 0x23#8).replied 0x23#8
      (if x.toNat < 1 ∨ 192 < x.toNat then .badValue else if s.routeRec x.toNat = none then .notFound else .ok)
      (if x.toNat < 1 ∨ 192 < x.toNat ∨ s.routeRec x.toNat = none then .plain
       else .route x.toNat (s.route x.toNat)
         ((match (s.route x.toNat).hold with
           | .absent => 0
           | .runs e => e - s.now
           | .frozen l => l) / 100000)
         (s.timeLeft (s.route x.toNat).approachTimer / 100000) (s.timeLeft (s.route x.toNat).overlapTimer / 100000)
         (positionOf x.toNat s.rie.heldQueue)
         (if (s.route x.toNat).context = 0 then {} else s.context (s.route x.toNat).context))))
    ∧ (exec (.sectionStatus x) s = .next ((s.taken 0x24#8).replied 0x24#8
      (if x.toNat < 1 ∨ 128 < x.toNat then .badValue else if s.trackRec x.toNat = none then .notFound else .ok)
      (if x.toNat < 1 ∨ 128 < x.toNat ∨ s.trackRec x.toNat = none then .plain
       else .track (s.occupancy x.toNat) (s.lock x.toNat)
         (if (s.lock x.toNat).holder = 0 then none else some (s.route (s.lock x.toNat).holder).state)
         (if (s.lock x.toNat).holder = 0 then 0 else s.pathPosition (s.lock x.toNat).holder x.toNat))))
    ∧ (exec (.pointStatus x) s = .next ((s.taken 0x29#8).replied 0x29#8
      (if x.toNat < 1 ∨ 64 < x.toNat then .badValue else if s.pointRec x.toNat = none then .notFound else .ok)
      (if x.toNat < 1 ∨ 64 < x.toNat ∨ s.pointRec x.toNat = none then .plain
       else .point (s.point x.toNat).commanded (s.detected x.toNat) (s.holders x.toNat) (s.point x.toNat).failed
         (s.point x.toNat).redriveUsed (s.point x.toNat).order (positionOf x.toNat s.pts.queue))))
    ∧ (∀ r, s.signalRec x.toNat = some r → 1 ≤ x.toNat → x.toNat ≤ 64 →
      exec (.signalStatus x) s = .next ((s.taken 0x2D#8).replied 0x2D#8 .ok
        (.signal (s.signal x.toNat) (s.proving x.toNat) (s.node r.headNode).state (s.entryHolder x.toNat)
          (if s.entryHolder x.toNat = 0 then none else some (s.route (s.entryHolder x.toNat)).state))))
    ∧ (x.toNat < 1 ∨ 64 < x.toNat → exec (.signalStatus x) s = .next ((s.taken 0x2D#8).replied 0x2D#8 .badValue))
    ∧ (1 ≤ x.toNat → x.toNat ≤ 64 → s.signalRec x.toNat = none →
      exec (.signalStatus x) s = .next ((s.taken 0x2D#8).replied 0x2D#8 .notFound))
    ∧ (exec (.districtStatus x) s = .next ((s.taken 0x33#8).replied 0x33#8
      (if x.toNat < 1 ∨ 8 < x.toNat then .badValue else .ok)
      (if x.toNat < 1 ∨ 8 < x.toNat then .plain
       else .district (s.district x.toNat) (s.districtRec x.toNat)
         ((s.pointsIn x.toNat).filter s.hasOrder).length ((s.pointsIn x.toNat).filter s.undetected).length)))
    ∧ (x.toNat < 1 ∨ 31 < x.toNat → exec (.nodeStatus x) s = .next ((s.taken 0x50#8).replied 0x50#8 .badValue))
    ∧ (1 ≤ x.toNat → x.toNat ≤ 31 → exec (.nodeStatus x) s = .next ((s.taken 0x50#8).replied 0x50#8 .ok
        (.node (s.nodeRec x.toNat).kind (if (s.nodeRec x.toNat).kind = .absent then {} else s.node x.toNat)
          ((List.range 16).flatMap fun c => ((s.tracksOn x.toNat).filter fun e => e.2.detInput == c + 1).map
            fun e => (c + 1, s.occupancy e.1))
          ((List.range 8).flatMap fun c => (s.tables.points.filter fun e =>
            e.2.drvNode == x.toNat && e.2.drvChan == c + 1).map fun e => (c + 1, s.detected e.1))
          ((List.range 8).flatMap fun c => (s.tables.signals.filter fun e =>
            e.2.headNode == x.toNat && e.2.head == c + 1).map fun e => (c + 1, s.proving e.1)))))

/-- R114, R143, R171, R183: TRAIN_STATUS, TABLE_STATUS and VISITOR_STATUS report their records and change nothing, and
neither do IDENTIFY and GET_MODE, which are answered OK in every mode. Times left of VISITOR_STATUS are in microseconds
(log 14), and the capacities of IDENTIFY are rows of figures (log 15). -/
def Obligations.BlockQueriesReport : Prop :=
  (∀ s : State, s.inReset = false → s.hl.inService = none →
      exec .identify s = .next ((s.taken 0x01#8).replied 0x01#8 .ok (.identification 0x0128 1 capacities))
      ∧ exec .getMode s = .next ((s.taken 0x02#8).replied 0x02#8 .ok
          (.modeInfo s.mode s.lts.estop s.lts.storing.isSome s.lts.lastCheck s.hl.hold s.hl.queue.length s.hl.dropped)))
  ∧ ∀ (n : Byte) (c : List Byte) (s : State), s.Listens →
    (32 < n.toNat → exec (.trainStatus (.position n)) s = .next ((s.taken 0x3A#8).replied 0x3A#8 .badValue))
    ∧ (n.toNat = 0 → exec (.trainStatus (.position n)) s = .next ((s.taken 0x3A#8).replied 0x3A#8 .ok
      (.trainList (s.td.trains.map fun e => (e.1, e.2.code, e.2.footprint.isEmpty)))))
    ∧ (1 ≤ n.toNat → n.toNat ≤ 32 → s.td.trains.get? n.toNat = none →
      exec (.trainStatus (.position n)) s = .next ((s.taken 0x3A#8).replied 0x3A#8 .notFound))
    ∧ (∀ w, 1 ≤ n.toNat → n.toNat ≤ 32 → s.td.trains.get? n.toNat = some w →
      exec (.trainStatus (.position n)) s = .next ((s.taken 0x3A#8).replied 0x3A#8 .ok
        (.train n.toNat w (w.footprint.map fun e => s.occupancy e.1))))
    ∧ (trainCodeOf c = none → exec (.trainStatus (.code c)) s = .next ((s.taken 0x3A#8).replied 0x3A#8 .badValue))
    ∧ (∀ k m w, trainCodeOf c = some k → s.trainCoded k = some m → s.td.trains.get? m = some w →
      exec (.trainStatus (.code c)) s = .next ((s.taken 0x3A#8).replied 0x3A#8 .ok
        (.train m w (w.footprint.map fun e => s.occupancy e.1))))
    ∧ (∀ k, trainCodeOf c = some k → s.trainCoded k = none →
      exec (.trainStatus (.code c)) s = .next ((s.taken 0x3A#8).replied 0x3A#8 .notFound))
    ∧ (s.tables.turntable = none → exec .tableStatus s = .next ((s.taken 0x44#8).replied 0x44#8 .notFound))
    ∧ (s.tables.turntable ≠ none → exec .tableStatus s = .next ((s.taken 0x44#8).replied 0x44#8 .ok
      (.table s.ttc.state s.ttc.homed s.ttc.p s.ttc.a s.ttc.face1 s.ttc.face2 s.ttc.deckOwner
        (if s.ttc.deckOwner = 0 then none else some (s.route s.ttc.deckOwner).state)
        (s.ttc.homePhase.map fun h => (h, s.ttc.attempts)) s.ttc.move s.ttc.boltEngage s.boltIn s.ttc.lastFault
        s.deckOccupancy s.deckAnswer)))
    ∧ exec .visitorStatus s = .next ((s.taken 0x4A#8).replied 0x4A#8 .ok
        (.visitor s.vpc.enable s.general.visitorAtStart ((List.range 16).map fun b => s.vpc.lamps.getD (b + 1) .off)
          (s.vpc.queue.map fun e => (e.button, e.script, e.expiresAt - s.now)) s.vpc.runner
          (s.timeLeft s.vpc.runner.stepTimer) (s.timeLeft s.vpc.runner.runtimeAt) s.vpc.arrival s.vpc.lastAbort
          ((List.range 16).map fun k => s.timeLeft (s.vpc.coolDowns.get? (k + 1))) s.vpc.rotation s.vpc.cursor
          (s.vpc.shown.map fun e => (e.1, e.2 - s.now)) s.vpc.line))

/-! ## The plan of a turntable move -/

/-- R146: the signed displacement of the shortest way round, the half turn going by the preferred direction. -/
def Obligations.ShortWayRule : Prop :=
  ∀ (t : TurntableRec) (p goal : Nat) (d : Int), 0 < t.turn → d = ((goal : Int) - p) % t.turn →
    (2 * d < t.turn → t.shortWay p goal = d)
    ∧ ((t.turn : Int) < 2 * d → t.shortWay p goal = d - t.turn)
    ∧ (2 * d = t.turn → t.shortWay p goal = match t.preferredDir with
        | .cw => d
        | .ccw => -d)
    ∧ 2 * (t.shortWay p goal).natAbs ≤ t.turn
    ∧ (t.shortWay p p = 0)
    ∧ ∀ w, ({ t with windingLimit := w } : TurntableRec).shortWay p goal = t.shortWay p goal

/-- R145 to R151: the end that a request of ANY is given, the displacement that is kept, replaced by the long way round or
refused by the winding limit, the legs it makes, and the rate of each step. A plan ends at its target whichever way it goes,
its last leg is CW where there is backlash, it keeps the winding limit, and a stopped leg is no shorter than its next step and
no longer than it was. -/
def Obligations.PlansReachTheirTarget : Prop :=
  (∀ (t : TurntableRec) (p goal : Nat) (a d : Int) (reach : Int → Int) (legs : Int → List Int), d = t.shortWay p goal →
    (∀ x, reach x = if 0 ≤ x then a + x else a + x - t.backlash) →
    (∀ x, legs x = if 0 < x then [x] else if x = 0 then [] else if t.backlash = 0 then [x]
      else [x - t.backlash, t.backlash]) →
    (d = 0 → t.planTo p a goal = some [])
    ∧ (t.windingLimit = 0 → t.planTo p a goal = some (legs d))
    ∧ (-(t.windingLimit : Int) ≤ reach d → reach d ≤ t.windingLimit → t.planTo p a goal = some (legs d))
    ∧ ∀ long, t.windingLimit ≠ 0 → d ≠ 0 → ¬ (-(t.windingLimit : Int) ≤ reach d ∧ reach d ≤ t.windingLimit) →
      long = (if 0 < d then d - t.turn else d + t.turn) →
      (-(t.windingLimit : Int) ≤ reach long → reach long ≤ t.windingLimit → t.planTo p a goal = some (legs long))
      ∧ (¬ (-(t.windingLimit : Int) ≤ reach long ∧ reach long ≤ t.windingLimit) → t.planTo p a goal = none))
  ∧ (∀ (t : TurntableRec) (p pos : Nat) (allowed : EndsAllowed),
    t.target pos .end1 = pos ∧ t.target pos .end2 = (pos + t.turn / 2) % t.turn
    ∧ t.chooseEnd p pos allowed .end1 = .end1 ∧ t.chooseEnd p pos allowed .end2 = .end2
    ∧ t.chooseEnd p pos .end1 .either = .end1 ∧ t.chooseEnd p pos .end2 .either = .end2
    ∧ t.chooseEnd p pos .both .either
      = if (t.shortWay p pos).natAbs ≤ (t.shortWay p ((pos + t.turn / 2) % t.turn)).natAbs then .end1 else .end2)
  ∧ (∀ (t : TurntableRec) (len i k : Nat), i < len → k = min i (len - 1 - i) →
    (k < t.rampSteps → t.rateOf len i = t.startRate + (t.topRate - t.startRate) * k / t.rampSteps)
    ∧ (t.rampSteps ≤ k → t.rateOf len i = t.topRate)
    ∧ (t.startRate ≤ t.topRate → t.startRate ≤ t.rateOf len i ∧ t.rateOf len i ≤ t.topRate
      ∧ (2 * i + 2 ≤ len → t.rateOf len i ≤ t.rateOf len (i + 1)))
    ∧ t.rateOf len i = t.rateOf len (len - 1 - i))
  ∧ ∀ (t : TurntableRec) (p goal : Nat) (a : Int) (legs : List Int), 0 < t.turn → goal < t.turn →
    t.planTo p a goal = some legs →
    ((p : Int) + legs.sum) % t.turn = goal
    ∧ (legs.sum = t.shortWay p goal ∨ legs.sum = t.longWay (t.shortWay p goal))
    ∧ (0 < t.backlash → ∀ l, legs.getLast? = some l → 0 < l)
    ∧ (legs = [] ↔ legs.sum = 0)
    ∧ (0 < t.windingLimit → legs ≠ [] →
      (0 ≤ legs.sum → -(t.windingLimit : Int) ≤ a + legs.sum ∧ a + legs.sum ≤ t.windingLimit)
      ∧ (legs.sum < 0 → -(t.windingLimit : Int) ≤ a + legs.sum - t.backlash
        ∧ a + legs.sum - t.backlash ≤ t.windingLimit))
    ∧ ∀ len i, i < len → i + 1 ≤ stoppedLength len i ∧ stoppedLength len i ≤ len
      ∧ (i ≤ len - 1 - i → stoppedLength len i = 2 * i + 1) ∧ (len - 1 - i < i → stoppedLength len i = len)

/-! ## TTC -/

/-- R132, R133, R135, R136, R137: TABLE_HOME and TABLE_MOVE, from the gate every request passes to the start of the homing
or of the move, the bolt in or out already, the first leg long or of one step, or no leg at all. That the first search step
is due one interval after the start, and the first step of a move in the event that enters MOVING, is log 12's reading. -/
def Obligations.TableHomeAndMoveStart : Prop :=
  ∀ (road deckEnd origin : Byte) (s : State), s.Listens →
    (s.tables.turntable = none →
      exec (.tableHome origin) s = .next ((s.taken 0x40#8).replied 0x40#8 .notFound)
      ∧ exec (.tableMove road deckEnd origin) s = .next ((s.taken 0x41#8).replied 0x41#8 .notFound))
    ∧ (s.tables.turntable ≠ none → s.mode ≠ .running →
      exec (.tableHome origin) s = .next ((s.taken 0x40#8).replied 0x40#8 .wrongMode)
      ∧ exec (.tableMove road deckEnd origin) s = .next ((s.taken 0x41#8).replied 0x41#8 .wrongMode))
    ∧ (s.tables.turntable ≠ none → s.mode = .running → 8 < origin.toNat →
      exec (.tableHome origin) s = .next ((s.taken 0x40#8).replied 0x40#8 .badValue)
      ∧ exec (.tableMove road deckEnd origin) s = .next ((s.taken 0x41#8).replied 0x41#8 .badValue))
    ∧ (s.tables.turntable ≠ none → s.mode = .running →
      road.toNat < 1 ∨ 24 < road.toNat ∨ (deckEnd.toNat < 1 ∨ 3 < deckEnd.toNat) →
      exec (.tableMove road deckEnd origin) s = .next ((s.taken 0x41#8).replied 0x41#8 .badValue))
    ∧ (s.tables.turntable ≠ none → s.mode = .running → origin.toNat ≤ 8 →
      (s.districtCheck (originOf origin) s.deckDistrict = .noAuthority →
        exec (.tableHome origin) s = .next ((s.taken 0x40#8).replied 0x40#8 .noAuthority)
        ∧ (1 ≤ road.toNat → road.toNat ≤ 24 → 1 ≤ deckEnd.toNat → deckEnd.toNat ≤ 3 →
          exec (.tableMove road deckEnd origin) s = .next ((s.taken 0x41#8).replied 0x41#8 .noAuthority)))
      ∧ (s.districtCheck (originOf origin) s.deckDistrict = .localRelease →
        exec (.tableHome origin) s = .next ((s.taken 0x40#8).replied 0x40#8 .localRelease)
        ∧ (1 ≤ road.toNat → road.toNat ≤ 24 → 1 ≤ deckEnd.toNat → deckEnd.toNat ≤ 3 →
          exec (.tableMove road deckEnd origin) s = .next ((s.taken 0x41#8).replied 0x41#8 .localRelease))))
    ∧ (∀ r, s.TableOpen origin r →
      (s.ttc.state.isMoving = true →
        exec (.tableHome origin) s = .next ((s.taken 0x40#8).replied 0x40#8 .busy))
      ∧ (s.ttc.state.isMoving = false → s.ttc.deckOwner ≠ 0 →
        exec (.tableHome origin) s = .next ((s.taken 0x40#8).replied 0x40#8 .tableOwned))
      ∧ (s.ttc.state.isMoving = false → s.ttc.deckOwner = 0 → s.deckOccupancy = .unknown →
        exec (.tableHome origin) s = .next ((s.taken 0x40#8).replied 0x40#8 .deckUnknown))
      ∧ (s.ttc.state.isMoving = false → s.ttc.deckOwner = 0 → s.deckOccupancy ≠ .unknown → s.overhangs = true →
        exec (.tableHome origin) s = .next ((s.taken 0x40#8).replied 0x40#8 .overhang))
      ∧ (s.Quiet → s.ttc.state.isMoving = false → s.ttc.deckOwner = 0 → s.deckOccupancy ≠ .unknown →
        s.overhangs = false →
        ∃ t, exec (.tableHome origin) s = .next t ∧ t.Answers 0x40#8 .accepted
        ∧ t.ttc.state = .homing ∧ t.ttc.homed = false ∧ t.ttc.attempts = 0 ∧ t.ttc.face1 = 0 ∧ t.ttc.face2 = 0
        ∧ t.ttc.p = s.ttc.p ∧ t.ttc.a = s.ttc.a
        ∧ (r.boltPresent = true → s.ttc.boltLevel = true → t.ttc.homePhase = some .withdraw ∧ t.ttc.boltEngage = false
          ∧ t.ttc.boltAt = some (s.now + tenths (r.boltLimit.getD 0)) ∧ t.ttc.stepAt = none)
        ∧ (r.boltPresent = false ∨ s.ttc.boltLevel = false → t.ttc.homePhase = some .search ∧ t.ttc.dir = .cw
          ∧ t.ttc.stepAt = some (s.now + 1000000 / r.startRate))
        ∧ t.rie.locks = s.rie.locks ∧ t.pts = s.pts ∧ t.td = s.td))
    ∧ ∀ r e, s.TableOpen origin r → 1 ≤ road.toNat → road.toNat ≤ 24 → deckEndOf deckEnd = some e →
      (s.ttc.deckOwner ≠ 0 →
        exec (.tableMove road deckEnd origin) s = .next ((s.taken 0x41#8).replied 0x41#8 .tableOwned))
      ∧ (s.ttc.deckOwner = 0 →
        (s.ttc.state = .unhomed →
          exec (.tableMove road deckEnd origin) s = .next ((s.taken 0x41#8).replied 0x41#8 .notHomed))
        ∧ (s.ttc.state = .fault →
          exec (.tableMove road deckEnd origin) s = .next ((s.taken 0x41#8).replied 0x41#8 .tableFault))
        ∧ (s.ttc.state.isMoving = true →
          exec (.tableMove road deckEnd origin) s = .next ((s.taken 0x41#8).replied 0x41#8 .busy))
        ∧ (s.ttc.state = .aligned ∨ s.ttc.state = .stopped →
          s.tables.roads.get? road.toNat = none
            ∨ (∃ rd, s.tables.roads.get? road.toNat = some rd ∧ Tables.askedAdmitted e rd.endsAllowed = false) →
          exec (.tableMove road deckEnd origin) s = .next ((s.taken 0x41#8).replied 0x41#8 .badValue))
        ∧ ∀ rd, s.ttc.state = .aligned ∨ s.ttc.state = .stopped → s.tables.roads.get? road.toNat = some rd →
          Tables.askedAdmitted e rd.endsAllowed = true →
          (s.Rested → s.facesAlready road.toNat rd.endsAllowed e = true →
            exec (.tableMove road deckEnd origin) s = .next ((s.taken 0x41#8).settled.replied 0x41#8 .ok))
          ∧ (s.facesAlready road.toNat rd.endsAllowed e = false →
            (s.deckOccupancy = .unknown →
              exec (.tableMove road deckEnd origin) s = .next ((s.taken 0x41#8).replied 0x41#8 .deckUnknown))
            ∧ (s.deckOccupancy ≠ .unknown → s.overhangs = true →
              exec (.tableMove road deckEnd origin) s = .next ((s.taken 0x41#8).replied 0x41#8 .overhang)))
          ∧ ∀ goal side, s.Quiet → s.facesAlready road.toNat rd.endsAllowed e = false → s.deckOccupancy ≠ .unknown →
            s.overhangs = false → side = r.chooseEnd s.ttc.p (s.tables.roadPos rd) rd.endsAllowed e →
            goal = r.target (s.tables.roadPos rd) side →
            (r.planTo s.ttc.p s.ttc.a goal = none →
              exec (.tableMove road deckEnd origin) s = .next ((s.taken 0x41#8).replied 0x41#8 .windingLimit))
            ∧ (∀ leg more, r.planTo s.ttc.p s.ttc.a goal = some (leg :: more) → r.boltPresent = true →
              s.ttc.boltLevel = true →
              ∃ t, exec (.tableMove road deckEnd origin) s = .next t ∧ t.Answers 0x41#8 .accepted
              ∧ t.ttc.state = .unbolting ∧ t.ttc.boltEngage = false
              ∧ t.ttc.boltAt = some (s.now + tenths (r.boltLimit.getD 0)) ∧ t.ttc.face1 = 0 ∧ t.ttc.face2 = 0
              ∧ t.ttc.move = some {
                  road := road.toNat, deckEnd := side, origin := originOf origin, context := 0, legs := leg :: more }
              ∧ t.ttc.p = s.ttc.p ∧ t.ttc.a = s.ttc.a ∧ t.rie.locks = s.rie.locks ∧ t.pts = s.pts)
            ∧ (∀ leg more p', r.planTo s.ttc.p s.ttc.a goal = some (leg :: more) →
              r.boltPresent = false ∨ s.ttc.boltLevel = false →
              p' = (if leg < 0 then (s.ttc.p + r.turn - 1) % r.turn else (s.ttc.p + 1) % r.turn) →
              ∃ t, exec (.tableMove road deckEnd origin) s = .next t ∧ t.Answers 0x41#8 .accepted
              ∧ t.ttc.p = p' ∧ t.ttc.pulses = s.ttc.pulses + 1 ∧ t.rie.locks = s.rie.locks ∧ t.pts = s.pts
              ∧ (1 < leg.natAbs ∨ more ≠ [] → t.ttc.state = .moving
                ∧ t.ttc.boltEngage = (if r.boltPresent = true then false else s.ttc.boltEngage)
                ∧ t.ttc.stepAt = some (s.now + 1000000 / r.rateOf leg.natAbs 0)
                ∧ t.ttc.move = some {
                    road := road.toNat, deckEnd := side, origin := originOf origin, context := 0, legs := leg :: more,
                    leg := if 1 < leg.natAbs then 1 else 2, stepIndex := if 1 < leg.natAbs then 1 else 0,
                    lastRate := some (r.rateOf leg.natAbs 0) })
              ∧ (leg.natAbs = 1 → more = [] → 0 < r.settleMs → t.ttc.state = .settling ∧ t.ttc.stepAt = none
                ∧ t.ttc.settleAt = some (s.now + ms r.settleMs))
              ∧ (leg.natAbs = 1 → more = [] → r.settleMs = 0 → r.boltPresent = true → t.ttc.state = .bolting
                ∧ t.ttc.boltEngage = true ∧ t.ttc.boltAt = some (s.now + tenths (r.boltLimit.getD 0)))
              ∧ (leg.natAbs = 1 → more = [] → r.settleMs = 0 → r.boltPresent = false →
                t.ttc.face1 = s.tables.faced p' .end1 ∧ t.ttc.face2 = s.tables.faced p' .end2 ∧ t.ttc.move = none
                ∧ t.ttc.state = (if s.tables.faced p' .end1 = 0 ∧ s.tables.faced p' .end2 = 0 then .stopped
                    else .aligned)))
            ∧ (r.planTo s.ttc.p s.ttc.a goal = some [] →
              ∃ t, exec (.tableMove road deckEnd origin) s = .next t ∧ t.Answers 0x41#8 .accepted
              ∧ t.ttc.p = s.ttc.p ∧ t.ttc.pulses = s.ttc.pulses ∧ t.rie.locks = s.rie.locks ∧ t.pts = s.pts
              ∧ (0 < r.settleMs → t.ttc.state = .settling ∧ t.ttc.settleAt = some (s.now + ms r.settleMs)
                ∧ t.ttc.boltEngage = s.ttc.boltEngage)
              ∧ (r.settleMs = 0 → r.boltPresent = true → s.ttc.boltLevel = false → t.ttc.state = .bolting
                ∧ t.ttc.boltEngage = true ∧ t.ttc.boltAt = some (s.now + tenths (r.boltLimit.getD 0)))
              ∧ (r.settleMs = 0 → r.boltPresent = true ∧ s.ttc.boltLevel = true ∨ r.boltPresent = false →
                t.ttc.boltEngage = (if r.boltPresent = true then true else s.ttc.boltEngage) ∧ t.ttc.move = none
                ∧ t.ttc.face1 = s.tables.faced s.ttc.p .end1 ∧ t.ttc.face2 = s.tables.faced s.ttc.p .end2
                ∧ t.ttc.state = (if s.tables.faced s.ttc.p .end1 = 0 ∧ s.tables.faced s.ttc.p .end2 = 0 then .stopped
                    else .aligned))))

/-- R132, R139, R140: TABLE_STOP and TABLE_HALT, from the gate every request passes to their effect by the state of the
turntable, where no context waits for the move. That a TABLE_STOP before the bolt has left aligns the deck in the same
event is read from R137 (log 12). -/
def Obligations.TableStopAndHaltByState : Prop :=
  (∀ (origin : Byte) (s : State), s.Listens →
    (s.tables.turntable = none →
      exec (.tableStop origin) s = .next ((s.taken 0x42#8).replied 0x42#8 .notFound)
      ∧ exec (.tableHalt origin) s = .next ((s.taken 0x43#8).replied 0x43#8 .notFound))
    ∧ (s.tables.turntable ≠ none → s.railActive = false →
      exec (.tableStop origin) s = .next ((s.taken 0x42#8).replied 0x42#8 .wrongMode)
      ∧ exec (.tableHalt origin) s = .next ((s.taken 0x43#8).replied 0x43#8 .wrongMode))
    ∧ (s.tables.turntable ≠ none → s.railActive = true → 8 < origin.toNat →
      exec (.tableStop origin) s = .next ((s.taken 0x42#8).replied 0x42#8 .badValue)
      ∧ exec (.tableHalt origin) s = .next ((s.taken 0x43#8).replied 0x43#8 .badValue))
    ∧ (s.tables.turntable ≠ none → s.railActive = true → origin.toNat ≤ 8 →
      (s.districtCheck (originOf origin) s.deckDistrict = .noAuthority →
        exec (.tableStop origin) s = .next ((s.taken 0x42#8).replied 0x42#8 .noAuthority)
        ∧ exec (.tableHalt origin) s = .next ((s.taken 0x43#8).replied 0x43#8 .noAuthority))
      ∧ (s.districtCheck (originOf origin) s.deckDistrict = .localRelease →
        exec (.tableStop origin) s = .next ((s.taken 0x42#8).replied 0x42#8 .localRelease)
        ∧ exec (.tableHalt origin) s = .next ((s.taken 0x43#8).replied 0x43#8 .localRelease))))
  ∧ ∀ (origin : Byte) (r : TurntableRec) (s : State), s.Listens → s.Quiet → s.TableOpen origin r → s.OwnMove →
    (∀ m, s.ttc.state = .moving → s.ttc.move = some m → m.stopPending = false →
      ∃ t, exec (.tableStop origin) s = .next t ∧ t.Answers 0x42#8 .ok ∧ t.ttc = { s.ttc with
        move := some { m with
          stopPending := true,
          legs := m.legs.set (m.leg - 1)
            (if Ttc.currentLeg m < 0 then -(stoppedLength (Ttc.currentLeg m).natAbs m.stepIndex : Int)
             else stoppedLength (Ttc.currentLeg m).natAbs m.stepIndex) } })
    ∧ (∀ m, s.ttc.state = .moving → s.ttc.move = some m → m.stopPending = true →
      ∃ t, exec (.tableStop origin) s = .next t ∧ t.Answers 0x42#8 .ok ∧ t.ttc = s.ttc)
    ∧ (s.ttc.state = .homing → ∃ t, exec (.tableStop origin) s = .next t ∧ t.Answers 0x42#8 .ok
      ∧ t.ttc.state = .unhomed ∧ t.ttc.stepAt = none ∧ t.ttc.boltAt = none ∧ t.ttc.homePhase = none
      ∧ t.ttc.boltEngage = s.ttc.boltEngage ∧ t.ttc.p = s.ttc.p ∧ t.ttc.a = s.ttc.a)
    ∧ (s.ttc.state = .unbolting → r.boltPresent = true → s.ttc.boltLevel = false →
      ∃ t, exec (.tableStop origin) s = .next t ∧ t.Answers 0x42#8 .ok ∧ t.ttc.state = .bolting
      ∧ t.ttc.boltEngage = true ∧ t.ttc.boltAt = some (s.now + tenths (r.boltLimit.getD 0))
      ∧ t.ttc.p = s.ttc.p ∧ t.ttc.move = s.ttc.move)
    ∧ (s.ttc.state = .unbolting → r.boltPresent = true → s.ttc.boltLevel = true →
      ∃ t, exec (.tableStop origin) s = .next t ∧ t.Answers 0x42#8 .ok
      ∧ t.ttc.state = (if s.tables.faced s.ttc.p .end1 = 0 ∧ s.tables.faced s.ttc.p .end2 = 0 then .stopped else .aligned)
      ∧ t.ttc.boltEngage = true ∧ t.ttc.face1 = s.tables.faced s.ttc.p .end1
      ∧ t.ttc.face2 = s.tables.faced s.ttc.p .end2 ∧ t.ttc.move = none ∧ t.ttc.p = s.ttc.p)
    ∧ (s.ttc.state = .settling ∨ s.ttc.state = .bolting ∨ (s.ttc.state.isMoving = false ∧ s.ttc.move = none) →
      ∃ t, exec (.tableStop origin) s = .next t ∧ t.Answers 0x42#8 .ok ∧ t.ttc = s.ttc)
    ∧ (∀ m, s.ttc.state = .moving → s.ttc.move = some m →
      ∃ t, exec (.tableHalt origin) s = .next t ∧ t.Answers 0x43#8 .ok ∧ t.ttc.stepAt = none ∧ t.ttc.move = none
      ∧ t.ttc.p = s.ttc.p ∧ t.ttc.a = s.ttc.a
      ∧ (∀ v, m.lastRate = some v → r.startRate < v → t.ttc.state = .unhomed ∧ t.ttc.homed = false)
      ∧ ((∀ v, m.lastRate = some v → v ≤ r.startRate) → t.ttc.state = .stopped ∧ t.ttc.homed = s.ttc.homed))
    ∧ (s.ttc.state = .homing → ∃ t, exec (.tableHalt origin) s = .next t ∧ t.Answers 0x43#8 .ok
      ∧ t.ttc.state = .unhomed ∧ t.ttc.stepAt = none ∧ t.ttc.p = s.ttc.p)
    ∧ (s.ttc.state = .unbolting ∨ s.ttc.state = .settling ∨ s.ttc.state = .bolting →
      ∃ t, exec (.tableHalt origin) s = .next t ∧ t.Answers 0x43#8 .ok ∧ t.ttc.state = .stopped
      ∧ t.ttc.boltEngage = s.ttc.boltEngage ∧ t.ttc.boltAt = none ∧ t.ttc.settleAt = none ∧ t.ttc.move = none)
    ∧ (s.ttc.state.isMoving = false → s.ttc.move = none →
      ∃ t, exec (.tableHalt origin) s = .next t ∧ t.Answers 0x43#8 .ok ∧ t.ttc = s.ttc)

/-- R134, R150, R137: one step of a homing search or back-off, in its midst and at its end, and one step of a move: the position, A held in its range,
the rate, and what follows the last step of a search, of a leg and of the plan. That a step is taken at the time its timer
names, and the next one counted from it, is log 2's choice; the count of the pulses is log 12's. -/
def Obligations.TurntableSteps : Prop :=
  ∀ (r : TurntableRec) (e : Nat) (s : State), s.inReset = false → s.Quiet → s.tables.turntable = some r →
    s.ttc.stepAt = some e →
    (s.ttc.state = .homing → s.ttc.homePhase = some .search → s.ttc.homeStep + 1 < r.turn + r.turn / 4 →
      ∃ t, exec .homingStep s = .next t ∧ t.now = max s.now e ∧ t.ttc = { s.ttc with
        pulses := s.ttc.pulses + 1, homeStep := s.ttc.homeStep + 1,
        stepAt := some (max s.now e + 1000000 / r.startRate) })
    ∧ (s.ttc.state = .homing → s.ttc.homePhase = some .search → r.turn + r.turn / 4 ≤ s.ttc.homeStep + 1 →
      (s.ttc.attempts + 1 < r.homeAttempts → ∃ t, exec .homingStep s = .next t ∧ t.ttc.state = .homing
        ∧ t.ttc.homePhase = some .backoff ∧ t.ttc.attempts = s.ttc.attempts + 1 ∧ t.ttc.dir = .ccw
        ∧ t.ttc.homeStep = 0 ∧ t.ttc.p = s.ttc.p)
      ∧ (r.homeAttempts ≤ s.ttc.attempts + 1 → s.OwnMove → ∃ t, exec .homingStep s = .next t ∧ t.ttc.state = .fault
        ∧ t.ttc.lastFault = some (.homeFailed, ((s.ttc.attempts + 1 : Nat) : Int)) ∧ t.ttc.homed = false
        ∧ t.ttc.stepAt = none ∧ t.ttc.p = s.ttc.p))
    ∧ (s.ttc.state = .homing → s.ttc.homePhase = some .backoff → s.ttc.homeStep + 1 < r.turn / 8 →
      ∃ t, exec .homingStep s = .next t ∧ t.now = max s.now e ∧ t.ttc = { s.ttc with
        pulses := s.ttc.pulses + 1, homeStep := s.ttc.homeStep + 1,
        stepAt := some (max s.now e + 1000000 / r.startRate) })
    ∧ (s.ttc.state = .homing → s.ttc.homePhase = some .backoff → r.turn / 8 ≤ s.ttc.homeStep + 1 →
      ∃ t, exec .homingStep s = .next t ∧ t.ttc.state = .homing ∧ t.ttc.homePhase = some .search ∧ t.ttc.dir = .cw
      ∧ t.ttc.homeStep = 0 ∧ t.ttc.p = s.ttc.p)
    ∧ ∀ m len rate p' a', s.ttc.state = .moving → s.ttc.move = some m → len = (Ttc.currentLeg m).natAbs →
      rate = r.rateOf len m.stepIndex →
      p' = (if Ttc.currentLeg m < 0 then (s.ttc.p + r.turn - 1) % r.turn else (s.ttc.p + 1) % r.turn) →
      a' = (if Ttc.currentLeg m < 0 then s.ttc.a - 1 else s.ttc.a + 1) →
      (m.stepIndex + 1 < len → ∃ t, exec .moveStep s = .next t ∧ t.now = max s.now e ∧ t.ttc = { s.ttc with
        p := p', a := (if a' < -2147483648 ∨ 2147483647 < a' then (p' : Int) else a'),
        dir := (if Ttc.currentLeg m < 0 then .ccw else .cw),
        pulses := s.ttc.pulses + 1, stepAt := some (max s.now e + 1000000 / rate),
        move := some { m with stepIndex := m.stepIndex + 1, lastRate := some rate } })
      ∧ (len ≤ m.stepIndex + 1 → m.stopPending = false → m.leg < m.legs.length →
        ∃ t, exec .moveStep s = .next t ∧ t.ttc.state = .moving ∧ t.ttc.p = p'
        ∧ t.ttc.a = (if a' < -2147483648 ∨ 2147483647 < a' then (p' : Int) else a')
        ∧ t.ttc.stepAt = some (max s.now e + 1000000 / rate)
        ∧ t.ttc.move = some { m with leg := m.leg + 1, stepIndex := 0, lastRate := some rate })
      ∧ (len ≤ m.stepIndex + 1 → m.stopPending = false → m.legs.length ≤ m.leg → 0 < r.settleMs →
        ∃ t, exec .moveStep s = .next t ∧ t.ttc.state = .settling ∧ t.ttc.stepAt = none
        ∧ t.ttc.settleAt = some (max s.now e + ms r.settleMs) ∧ t.ttc.p = p')
      ∧ (len ≤ m.stepIndex + 1 → m.stopPending = false → m.legs.length ≤ m.leg → r.settleMs = 0 →
        r.boltPresent = false → m.context = 0 → ∃ t, exec .moveStep s = .next t ∧ t.ttc.stepAt = none ∧ t.ttc.move = none
        ∧ t.ttc.face1 = s.tables.faced p' .end1 ∧ t.ttc.face2 = s.tables.faced p' .end2
        ∧ t.ttc.state = (if s.tables.faced p' .end1 = 0 ∧ s.tables.faced p' .end2 = 0 then .stopped else .aligned))
      ∧ (len ≤ m.stepIndex + 1 → m.stopPending = true → m.context = 0 →
        ∃ t, exec .moveStep s = .next t ∧ t.ttc.state = .stopped ∧ t.ttc.move = none ∧ t.ttc.stepAt = none
        ∧ t.ttc.face1 = 0 ∧ t.ttc.face2 = 0)

/-- R127, R128, R130, R134, R137, R141, R142, R152, R153: the index edge, its correction and the replan of a leg that is left
no step, the change of the bolt, and the bolt and settle timers, where no context waits for the move. That a timer's expiry
brings the time base to its time is log 2's choice; that a correction beyond the range of A sets A to p, that the level of
BOLT_IN is kept with no bolt configured, and that an edge before the first step of a CW leg is judged as on that leg, is log
12's. -/
def Obligations.IndexBoltAndTimers : Prop :=
  ∀ (r : TurntableRec) (e : Nat) (s : State), s.inReset = false → s.Quiet → s.loopRuns = true → s.OwnMove →
    s.tables.turntable = some r →
    (s.ttc.state = .homing → s.ttc.homePhase = some .search → ∃ t, exec .indexEdge s = .next t
      ∧ t.ttc.state = .stopped ∧ t.ttc.homed = true ∧ t.ttc.p = r.indexOffset
      ∧ t.ttc.a = wrapHalf r.turn r.indexOffset ∧ t.ttc.attempts = 0 ∧ t.ttc.stepAt = none)
    ∧ (∀ m slip, s.ttc.state = .moving → s.ttc.move = some m → 0 < Ttc.currentLeg m →
      slip = wrapHalf r.turn ((s.ttc.p : Int) - r.indexOffset) →
      (slip.natAbs ≤ r.slipTolerance → 1 ≤ Ttc.currentLeg m - m.stepIndex + slip →
        ∃ t, exec .indexEdge s = .next t ∧ t.ttc = { s.ttc with
          p := r.indexOffset,
          a := (if -2147483648 ≤ s.ttc.a - slip ∧ s.ttc.a - slip ≤ 2147483647 then s.ttc.a - slip
                else r.indexOffset),
          move := some { m with
            legs := m.legs.set (m.leg - 1)
              (m.stepIndex + (Ttc.currentLeg m - m.stepIndex + slip)) } })
      ∧ (r.slipTolerance < slip.natAbs → ∃ t, exec .indexEdge s = .next t ∧ t.ttc.state = .fault
        ∧ t.ttc.lastFault = some (.indexSlip, slip) ∧ t.ttc.homed = false ∧ t.ttc.p = s.ttc.p ∧ t.ttc.a = s.ttc.a
        ∧ t.ttc.stepAt = none ∧ t.ttc.move = none)
      ∧ (slip.natAbs ≤ r.slipTolerance → Ttc.currentLeg m - m.stepIndex + slip < 1 →
        (m.stopPending = true → ∃ t, exec .indexEdge s = .next t ∧ t.ttc.state = .stopped ∧ t.ttc.move = none
          ∧ t.ttc.p = r.indexOffset ∧ t.ttc.stepAt = none ∧ t.ttc.homed = s.ttc.homed)
        ∧ (m.stopPending = false → m.replanUsed = true → ∃ t, exec .indexEdge s = .next t ∧ t.ttc.state = .fault
          ∧ t.ttc.lastFault = some (.replan, 0) ∧ t.ttc.homed = false ∧ t.ttc.p = r.indexOffset ∧ t.ttc.move = none
          ∧ t.ttc.stepAt = none)
        ∧ ∀ a' goal rd, m.stopPending = false → m.replanUsed = false → s.tables.roads.get? m.road = some rd →
          a' = (if -2147483648 ≤ s.ttc.a - slip ∧ s.ttc.a - slip ≤ 2147483647 then s.ttc.a - slip
                else (r.indexOffset : Int)) →
          goal = r.target (s.tables.roadPos rd) m.deckEnd →
          (r.planTo r.indexOffset a' goal = none → ∃ t, exec .indexEdge s = .next t ∧ t.ttc.state = .stopped
            ∧ t.ttc.move = none ∧ t.ttc.p = r.indexOffset ∧ t.ttc.a = a' ∧ t.ttc.stepAt = none)
          ∧ (r.planTo r.indexOffset a' goal = some [] → 0 < r.settleMs → ∃ t, exec .indexEdge s = .next t
            ∧ t.ttc.state = .settling ∧ t.ttc.p = r.indexOffset ∧ t.ttc.a = a' ∧ t.ttc.stepAt = none
            ∧ t.ttc.settleAt = some (s.now + ms r.settleMs)
            ∧ t.ttc.move = some { m with replanUsed := true, legs := [], leg := 1, stepIndex := 0 })
          ∧ ∀ leg more, r.planTo r.indexOffset a' goal = some (leg :: more) → ∃ t, exec .indexEdge s = .next t
            ∧ t.ttc = { s.ttc with
                p := r.indexOffset, a := a',
                move := some { m with replanUsed := true, legs := leg :: more, leg := 1, stepIndex := 0 } }))
    ∧ (∀ m, s.ttc.state = .moving → s.ttc.move = some m → Ttc.currentLeg m ≤ 0 →
      ∃ t, exec .indexEdge s = .next t ∧ t.ttc = s.ttc)
    ∧ (∀ b, s.ttc.boltLevel = b → exec (.boltInChange b) s = .next s)
    ∧ (∀ b, s.ttc.boltLevel ≠ b → r.boltPresent = false →
      exec (.boltInChange b) s = .next (s.setTtc { s.ttc with boltLevel := b }))
    ∧ (s.ttc.state = .aligned → s.ttc.move = none → r.boltPresent = true → s.ttc.boltLevel = true →
      ∃ t, exec (.boltInChange false) s = .next t ∧ t.ttc.state = .fault ∧ t.ttc.lastFault = some (.boltLost, 0)
      ∧ t.ttc.homed = false ∧ t.ttc.face1 = 0 ∧ t.ttc.face2 = 0 ∧ t.ttc.boltLevel = false
      ∧ t.ttc.boltEngage = s.ttc.boltEngage ∧ t.ttc.p = s.ttc.p ∧ t.ttc.deckOwner = s.ttc.deckOwner
      ∧ t.rie.locks = s.rie.locks)
    ∧ (∀ m, s.ttc.state = .unbolting → s.ttc.move = some m → r.boltPresent = true → s.ttc.boltLevel = true →
      m.stepIndex + 1 < (Ttc.currentLeg m).natAbs →
      ∃ t, exec (.boltInChange false) s = .next t ∧ t.ttc.state = .moving ∧ t.ttc.boltLevel = false
      ∧ t.ttc.boltAt = none ∧ t.ttc.pulses = s.ttc.pulses + 1
      ∧ t.ttc.stepAt = some (s.now + 1000000 / r.rateOf (Ttc.currentLeg m).natAbs m.stepIndex))
    ∧ (s.ttc.state = .homing → s.ttc.homePhase = some .withdraw → r.boltPresent = true → s.ttc.boltLevel = true →
      ∃ t, exec (.boltInChange false) s = .next t ∧ t.ttc = { s.ttc with
        boltLevel := false, homePhase := some .search, homeStep := 0, dir := .cw, boltAt := none, settleAt := none,
        stepAt := some (s.now + 1000000 / r.startRate) })
    ∧ (s.ttc.state = .bolting → r.boltPresent = true → s.ttc.boltLevel = false →
      ∃ t, exec (.boltInChange true) s = .next t ∧ t.ttc.boltLevel = true ∧ t.ttc.boltAt = none ∧ t.ttc.move = none
      ∧ (s.tables.faced s.ttc.p .end1 ≠ 0 ∨ s.tables.faced s.ttc.p .end2 ≠ 0 → t.ttc.state = .aligned
        ∧ t.ttc.face1 = s.tables.faced s.ttc.p .end1 ∧ t.ttc.face2 = s.tables.faced s.ttc.p .end2)
      ∧ (s.tables.faced s.ttc.p .end1 = 0 → s.tables.faced s.ttc.p .end2 = 0 → t.ttc.state = .stopped
        ∧ t.ttc.face1 = 0 ∧ t.ttc.face2 = 0))
    ∧ (s.ttc.boltAt = some e → s.ttc.state = .unbolting ∨ s.ttc.state = .bolting
        ∨ (s.ttc.state = .homing ∧ s.ttc.homePhase = some .withdraw) →
      ∃ t, exec .boltTimerExpired s = .next t ∧ t.now = max s.now e ∧ t.ttc.state = .fault
      ∧ t.ttc.lastFault = some (.bolt, 0) ∧ t.ttc.homed = false ∧ t.ttc.boltAt = none
      ∧ t.ttc.boltEngage = s.ttc.boltEngage ∧ t.ttc.p = s.ttc.p ∧ t.ttc.move = none)
    ∧ (s.ttc.settleAt = some e → s.ttc.state = .settling →
      (r.boltPresent = true → s.ttc.boltLevel = false → ∃ t, exec .settleExpired s = .next t ∧ t.now = max s.now e
        ∧ t.ttc.state = .bolting ∧ t.ttc.boltEngage = true
        ∧ t.ttc.boltAt = some (max s.now e + tenths (r.boltLimit.getD 0)) ∧ t.ttc.move = s.ttc.move)
      ∧ (r.boltPresent = true → s.ttc.boltLevel = true → ∃ t, exec .settleExpired s = .next t ∧ t.now = max s.now e
        ∧ t.ttc.boltEngage = true ∧ t.ttc.boltAt = none ∧ t.ttc.settleAt = none ∧ t.ttc.move = none
        ∧ t.ttc.face1 = s.tables.faced s.ttc.p .end1 ∧ t.ttc.face2 = s.tables.faced s.ttc.p .end2
        ∧ t.ttc.state = (if s.tables.faced s.ttc.p .end1 = 0 ∧ s.tables.faced s.ttc.p .end2 = 0 then .stopped
            else .aligned))
      ∧ (r.boltPresent = false → s.tables.faced s.ttc.p .end1 ≠ 0 ∨ s.tables.faced s.ttc.p .end2 ≠ 0 →
        ∃ t, exec .settleExpired s = .next t ∧ t.ttc.state = .aligned ∧ t.ttc.face1 = s.tables.faced s.ttc.p .end1
        ∧ t.ttc.face2 = s.tables.faced s.ttc.p .end2 ∧ t.ttc.move = none ∧ t.ttc.settleAt = none))

/-! ## VPC -/

/-- R154, R155, R156, R168, R169, R170: the visitor enable and its stored value, and the message line of the board: the
rotation is the list with later repeats left out, and the cursor and the dwell follow a slot that is filled or emptied.
That a MESSAGE_PUT moves the cursor on or sets it anew while an override stands too, and that the dwell timer is stopped
while the cursor is 0 or an override stands, is log 13's choice; that an expiry brings the time base to its time is log 2's. -/
def Obligations.VisitorEnableAndBoard : Prop :=
  ∀ (setting origin slot : Byte) (text slots : List Byte) (e n : Nat) (s : State),
    (s.Listens → s.loopRuns = false →
      exec (.visitorEnable setting origin) s = .next ((s.taken 0x48#8).replied 0x48#8 .wrongMode))
    ∧ (s.Listens → s.loopRuns = true → 1 < setting.toNat →
      exec (.visitorEnable setting origin) s = .next ((s.taken 0x48#8).replied 0x48#8 .badValue))
    ∧ (s.Listens → s.loopRuns = true → setting.toNat ≤ 1 → origin.toNat ≠ 0 →
      exec (.visitorEnable setting origin) s = .next ((s.taken 0x48#8).replied 0x48#8 .noAuthority))
    ∧ (s.Listens → s.loopRuns = true → setting.toNat ≤ 1 → origin.toNat = 0 →
      s.vpc.enable = decide (setting.toNat = 1) →
      exec (.visitorEnable setting origin) s = .next ((s.taken 0x48#8).replied 0x48#8 .ok))
    ∧ (s.Listens → s.Quiet → s.loopRuns = true → setting.toNat ≤ 1 → origin.toNat = 0 →
      s.vpc.enable ≠ decide (setting.toNat = 1) →
      exec (.visitorEnable setting origin) s = .next ((((s.taken 0x48#8).setVpc
        { s.vpc with enable := decide (setting.toNat = 1) }).settled).replied 0x48#8 .ok))
    ∧ (s.Listens → 1 < setting.toNat →
      exec (.visitorDefault setting origin) s = .next ((s.taken 0x49#8).replied 0x49#8 .badValue))
    ∧ (s.Listens → setting.toNat ≤ 1 → origin.toNat ≠ 0 →
      exec (.visitorDefault setting origin) s = .next ((s.taken 0x49#8).replied 0x49#8 .noAuthority))
    ∧ (s.Listens → s.Quiet → setting.toNat ≤ 1 → origin.toNat = 0 →
      ∃ t, exec (.visitorDefault setting origin) s = .next t ∧ t.Answers 0x49#8 .ok
      ∧ t.lts = { s.lts with tables := { s.tables with
          general := { s.general with visitorAtStart := decide (setting.toNat = 1) } } }
      ∧ t.vpc.enable = (s.vpc.enable || decide (setting.toNat = 1)) ∧ t.serial = s.serial
      ∧ t.rie = s.rie ∧ t.pts = s.pts ∧ t.td = s.td ∧ t.ttc = s.ttc)
    ∧ (s.Listens → slot.toNat < 1 ∨ 8 < slot.toNat →
      exec (.messagePut slot origin text) s = .next ((s.taken 0x4B#8).replied 0x4B#8 .badValue))
    ∧ (s.Listens → 1 ≤ slot.toNat → slot.toNat ≤ 8 →
      ∃ v, exec (.messagePut slot origin text) s = .next (((s.taken 0x4B#8).setVpc v).replied 0x4B#8 .ok)
      ∧ v.slotText slot.toNat
          = (text.take 40).map (fun b => if 0x20 ≤ b.toNat ∧ b.toNat ≤ 0x7E then b else 0x20#8)
      ∧ (∀ k, k ≠ slot.toNat → v.slotText k = s.vpc.slotText k) ∧ v.rotation = s.vpc.rotation
      ∧ v.enable = s.vpc.enable ∧ v.queue = s.vpc.queue ∧ v.runner = s.vpc.runner ∧ v.shown = s.vpc.shown
      ∧ (text = [] → s.vpc.cursor ≠ 0 → s.vpc.rotation[s.vpc.cursor - 1]? = some slot.toNat →
        v.cursor = ((v.fullPositions.filter fun k => decide (s.vpc.cursor < k)) ++ v.fullPositions).headD 0
        ∧ v.dwellAt = (if s.vpc.shown = none ∧ v.cursor ≠ 0 then some (s.now + seconds s.general.dwell) else none))
      ∧ (text ≠ [] → s.vpc.cursor = 0 → slot.toNat ∈ s.vpc.rotation → v.cursor = v.fullPositions.headD 0
        ∧ v.dwellAt = (if s.vpc.shown = none ∧ v.cursor ≠ 0 then some (s.now + seconds s.general.dwell) else none))
      ∧ ((text = [] → s.vpc.cursor = 0 ∨ s.vpc.rotation[s.vpc.cursor - 1]? ≠ some slot.toNat) →
        (text ≠ [] → s.vpc.cursor ≠ 0 ∨ slot.toNat ∉ s.vpc.rotation) →
        v.cursor = s.vpc.cursor ∧ v.dwellAt = s.vpc.dwellAt))
    ∧ (s.Listens → 8 < slots.length ∨ (∃ b ∈ slots, b.toNat < 1 ∨ 8 < b.toNat) →
      exec (.rotationSet origin slots) s = .next ((s.taken 0x4C#8).replied 0x4C#8 .badValue))
    ∧ (s.Listens → slots.length ≤ 8 → (∀ b ∈ slots, 1 ≤ b.toNat ∧ b.toNat ≤ 8) →
      ∃ v, exec (.rotationSet origin slots) s = .next (((s.taken 0x4C#8).setVpc v).replied 0x4C#8 .ok)
      ∧ v.rotation = slots.foldl (fun l b => if l.contains b.toNat then l else l ++ [b.toNat]) []
      ∧ v.rotation.Nodup ∧ (∀ k, k ∈ v.rotation ↔ ∃ b ∈ slots, b.toNat = k)
      ∧ v.cursor = v.fullPositions.headD 0 ∧ v.shown = s.vpc.shown
      ∧ v.dwellAt = (if s.vpc.shown = none ∧ v.cursor ≠ 0 then some (s.now + seconds s.general.dwell) else none)
      ∧ v.slots = s.vpc.slots ∧ v.enable = s.vpc.enable
      ∧ v.queue = s.vpc.queue ∧ v.runner = s.vpc.runner)
    ∧ (s.inReset = false → s.Rested → s.vpc.dwellAt = some e → s.vpc.shown = none →
      ∃ t, exec .dwellExpired s = .next t ∧ t.now = max s.now e
      ∧ t.vpc.cursor = ((s.vpc.fullPositions.filter fun k => decide (s.vpc.cursor < k)) ++ s.vpc.fullPositions).headD 0
      ∧ t.vpc.dwellAt = (if t.vpc.cursor = 0 then none else some (t.now + seconds s.general.dwell))
      ∧ t.vpc.slots = s.vpc.slots ∧ t.vpc.rotation = s.vpc.rotation ∧ t.SameBelow s)
    ∧ (s.inReset = false → s.Rested → s.vpc.shown = some (n, e) →
      s.vpc.line = s.vpc.slotText n
      ∧ ∃ t, exec .overrideExpired s = .next t ∧ t.now = max s.now e ∧ t.vpc.shown = none
      ∧ t.vpc.cursor = s.vpc.cursor
      ∧ t.vpc.dwellAt = (if s.vpc.cursor = 0 then none else some (t.now + seconds s.general.dwell))
      ∧ t.SameBelow s)

/-- R159 to R161, R164 to R167: the start of a script by its first step, the expiry of a waiting visitor, of a runtime with
and without owned routes, of a step, be another to follow or not, and of a cool-down. Each expiry brings the time base to its
time: that is log 2's choice. -/
def Obligations.VisitorScriptsInTime : Prop :=
  ∀ (k e d : Nat) (v : VisitorEntry) (r : ScriptRec) (s : State), s.inReset = false → s.NothingDue →
    s.rie.heldQueue = [] → s.mode ≠ .stopping →
    (s.startable = some v → s.scriptRec v.script = some r → s.vpc.queue = [v] → r.steps.head? = some (.pause d) →
      v.script ≠ 0 →
      ∃ t, exec .scriptStart s = .next t ∧ t.vpc.queue = [] ∧ t.vpc.runner = {
        script := v.script, button := v.button, step := 1, awaiting := .time,
        stepTimer := some (s.now + seconds d), runtimeAt := some (s.now + seconds r.maxRuntime) }
      ∧ t.hl = s.hl.raised [visitorRecord v.script .started v.button 0] ∧ t.SameBelow s)
    ∧ (∀ x, s.startable = some v → s.scriptRec v.script = some r → s.vpc.queue = [v] →
      r.steps.head? = some (.waitClear x d) → s.occupancy x ≠ .clear → v.script ≠ 0 →
      ∃ t, exec .scriptStart s = .next t ∧ t.vpc.queue = [] ∧ t.vpc.runner = {
        script := v.script, button := v.button, step := 1, awaiting := .clear,
        stepTimer := some (s.now + seconds d), runtimeAt := some (s.now + seconds r.maxRuntime) }
      ∧ t.hl = s.hl.raised [visitorRecord v.script .started v.button 0] ∧ t.SameBelow s)
    ∧ (∀ x, s.startable = some v → s.scriptRec v.script = some r → s.vpc.queue = [v] →
      r.steps.head? = some (.waitArrival x d) → s.trainHeaded x = none → v.script ≠ 0 →
      ∃ t, exec .scriptStart s = .next t ∧ t.vpc.queue = [] ∧ t.vpc.runner = {
        script := v.script, button := v.button, step := 1, awaiting := .arrival,
        stepTimer := some (s.now + seconds d), runtimeAt := some (s.now + seconds r.maxRuntime) }
      ∧ t.hl = s.hl.raised [visitorRecord v.script .started v.button 0] ∧ t.SameBelow s)
    ∧ (∀ n, s.startable = some v → s.scriptRec v.script = some r → s.vpc.queue = [v] → r.steps = [.display n d] →
      v.script ≠ 0 →
      ∃ t, exec .scriptStart s = .next t ∧ t.vpc.queue = [] ∧ t.vpc.runner = {}
      ∧ t.vpc.shown = some (n, s.now + seconds d) ∧ t.vpc.dwellAt = none
      ∧ t.vpc.coolDowns.get? v.script = (if r.coolDown = 0 then s.vpc.coolDowns.get? v.script
          else some (s.now + seconds r.coolDown))
      ∧ t.hl = s.hl.raised [visitorRecord v.script .started v.button 0, visitorRecord v.script .step 1 0,
                            visitorRecord v.script .completed v.button 0]
      ∧ t.SameBelow s)
    ∧ (s.startable = none → s.vpc.queue = [v] →
      ∃ t, exec (.visitorWaitExpired v.button) s = .next t ∧ t.now = max s.now v.expiresAt ∧ t.vpc.queue = []
      ∧ t.vpc.runner = s.vpc.runner ∧ t.hl = s.hl.raised [visitorRecord v.script .expired v.button 0] ∧ t.SameBelow s)
    ∧ (s.vpc.queue = [] → s.vpc.runner.script = k → k ≠ 0 → s.vpc.runner.runtimeAt = some e →
      (∀ q ∈ s.vpc.runner.owned, (s.route q).state = .free ∨ (s.route q).state = .inUse
        ∨ (s.route q).state = .approachLocked ∨ (s.route q).state = .restoring) → s.scriptRec k = some r →
      ∃ t, exec .runtimeExpired s = .next t ∧ t.now = max s.now e ∧ t.vpc.runner = {}
      ∧ t.vpc.lastAbort = some { script := k, cause := .runtime, step := s.vpc.runner.step, failure := .none }
      ∧ t.vpc.coolDowns.get? k = (if r.coolDown = 0 then s.vpc.coolDowns.get? k
          else some (max s.now e + seconds r.coolDown))
      ∧ t.hl = s.hl.raised [visitorRecord k .aborted 2 s.vpc.runner.step] ∧ t.SameBelow s)
    ∧ (∀ q rt, s.vpc.queue = [] → s.vpc.runner.script = k → k ≠ 0 → s.vpc.runner.runtimeAt = some e →
      s.mode = .running → s.vpc.runner.owned = [q] → 1 ≤ q → q ≤ 192 → s.routeRec q = some rt →
      (s.route q).state = .locked → (s.route q).origin = some .visitor → (s.route q).forced = false →
      (s.route q).fleet = false → (s.route q).released = [] → (s.route q).overlapReleased = false →
      ((s.route q).clearedOnce = false →
        ∃ t, exec .runtimeExpired s = .next t ∧ t.vpc.runner = {} ∧ t.route q = { cause := .cancelled }
        ∧ (∀ x ∈ rt.path, t.lock x = {}) ∧ t.entryHolder rt.entry ≠ q ∧ t.pts = s.pts
        ∧ ∃ l, t.hl = s.hl.raised (visitorRecord k .aborted 2 s.vpc.runner.step
            :: routeRecord q .free .locked .cancelled :: l))
      ∧ ((s.route q).clearedOnce = true → s.allClear rt.approach = false → rt.approachTime ≠ 0 →
        ∃ t, exec .runtimeExpired s = .next t ∧ t.vpc.runner = {} ∧ (t.route q).state = .approachLocked
        ∧ (t.route q).approachTimer = some (max s.now e + seconds rt.approachTime) ∧ t.rie.locks = s.rie.locks
        ∧ ∃ l, t.hl = s.hl.raised (visitorRecord k .aborted 2 s.vpc.runner.step
            :: routeRecord q .approachLocked .locked .cancelled :: l)))
    ∧ (s.vpc.queue = [] → s.vpc.runner.script = k → k ≠ 0 → s.vpc.runner.stepTimer = some e →
      s.vpc.runner.owned = [] → s.scriptRec k = some r →
      (s.vpc.runner.awaiting = .time → r.steps.length ≤ s.vpc.runner.step →
        ∃ t, exec .stepTimerExpired s = .next t ∧ t.now = max s.now e ∧ t.vpc.runner = {}
        ∧ t.vpc.lastAbort = s.vpc.lastAbort
        ∧ t.hl = s.hl.raised [visitorRecord k .step s.vpc.runner.step 0,
                              visitorRecord k .completed s.vpc.runner.button 0]
        ∧ t.SameBelow s)
      ∧ (s.vpc.runner.awaiting = .time → r.steps[s.vpc.runner.step]? = some (.pause d) →
        ∃ t, exec .stepTimerExpired s = .next t ∧ t.now = max s.now e
        ∧ t.vpc.runner = { s.vpc.runner with
            step := s.vpc.runner.step + 1, stepRoute := 0, stepTimer := some (max s.now e + seconds d) }
        ∧ t.hl = s.hl.raised [visitorRecord k .step s.vpc.runner.step 0] ∧ t.SameBelow s)
      ∧ (s.vpc.runner.awaiting = .arrival ∨ s.vpc.runner.awaiting = .clear →
        ∃ t, exec .stepTimerExpired s = .next t ∧ t.now = max s.now e ∧ t.vpc.runner = {}
        ∧ t.vpc.lastAbort = some { script := k, cause := .stepFailed, step := s.vpc.runner.step, failure := .timeout }
        ∧ t.hl = s.hl.raised [visitorRecord k .aborted 1 s.vpc.runner.step] ∧ t.SameBelow s))
    ∧ (s.startable = none → s.vpc.coolDowns.get? k = some e →
      ∃ t, exec (.coolDownExpired k) s = .next t ∧ t.now = max s.now e ∧ t.vpc.coolDowns.get? k = none
      ∧ (∀ j, j ≠ k → t.vpc.coolDowns.get? j = s.vpc.coolDowns.get? j) ∧ t.vpc.queue = s.vpc.queue
      ∧ t.vpc.runner = s.vpc.runner ∧ t.hl = s.hl ∧ t.SameBelow s)

/-- R157: the pattern of each button's lamp, by the first line of the table that applies; every lamp shows its pattern after
reset, and whatever a step does, lamps that showed it before show it after. -/
def Obligations.LampsFollowTheirTable : Prop :=
  (∀ (b : Nat) (s : State),
    (∀ k, s.scriptOf b = some k → ∃ r, (k, r) ∈ s.tables.scripts ∧ r.button = b)
    ∧ ∃ c, FirstFailing [
        (s.mode = .running ∧ s.vpc.enable = true
          ∧ (∃ e ∈ s.tables.nodes, e.2.kind = .panel ∧ (s.node e.1).state = .online)
          ∧ ∃ e ∈ s.tables.scripts, e.2.button = b, .off),
        (∀ k, s.scriptOf b = some k → s.vpc.runner.script ≠ k, .fast),
        (∀ k, s.scriptOf b = some k → s.vpc.coolDowns.get? k = none, .off),
        (∀ k, s.scriptOf b = some k → ∃ r, s.scriptRec k = some r ∧ s.scriptCheck k = .pass
          ∧ ((∃ d e, .turnTable d e ∈ r.steps) → s.ttc.state ≠ .unhomed ∧ s.ttc.state ≠ .fault), .off),
        (∀ k, s.scriptOf b = some k → ∀ e ∈ s.vpc.queue, e.script ≠ k, .slow)] c
      ∧ s.lampOf b = c.getD .steady)
  ∧ State.reset.LampsShown
  ∧ ∀ s t : State, s.LampsShown → step s = .next t → t.LampsShown

/-- R162, R165: a SET_ROUTE step that is refused, or whose placement fails at once, aborts the script; one whose route is
LOCKED at once is done; one whose route is SETTING or HELD waits, and the route's change to LOCKED ends the step, its change to
FREE the script. A CANCEL_ROUTE step is done at once, be the route owned, IN_USE or not owned. The step number, the owned list,
the cool-down and the VISITOR records follow (R161, R166, R167); an expiry brings the time base to its time (log 2), the
SIGNAL_ASPECT records of an event stand before the VISITOR records (log 9), and the ROUTE_STATE of an admission has the state
before it as the previous state (log 11). -/
def Obligations.ScriptRouteSteps : Prop :=
  (∀ (q d : Nat) (v : VisitorEntry) (r : ScriptRec) (rt : RouteRec) (more : List ScriptStep) (s : State),
    s.OneVisitor v r → 1 ≤ q → q ≤ 192 →
    (∀ c, r.steps.head? = some (.setRoute q) →
      (s.routeRec q = none ∧ c = .notFound)
        ∨ (s.routeRec q = some rt ∧ (s.route q).state ≠ .free ∧ c = .duplicate)
        ∨ (s.routeRec q = some rt ∧ (s.route q).state = .free ∧ s.routeCheck .visitor q = .noAuthority
          ∧ c = .noAuthority) →
      ∃ t, exec .scriptStart s = .next t ∧ t.vpc.queue = [] ∧ t.ScriptAborted s v.script r .stepFailed 1 (.refusal c)
      ∧ t.hl = s.hl.raised [visitorRecord v.script .started v.button 0, visitorRecord v.script .aborted 1 1]
      ∧ t.SameBelow s)
    ∧ (s.routeRec q = some rt → (s.route q).state = .free → s.routeCheck .visitor q ≠ .noAuthority →
      (s.conflict q .visitor = none → (∀ y ∈ rt.reqs, s.liesAt y.point y.lie = true) →
        (∀ x, rt.deck = some x → s.ttc.alignedAt x.1 x.2 = true) → r.steps = .setRoute q :: .pause d :: more →
        ∃ t, exec .scriptStart s = .next t ∧ (t.route q).state = .locked ∧ (t.route q).origin = some .visitor
        ∧ (t.route q).fleet = false ∧ (∀ j ∈ rt.path ++ rt.overlap, (t.lock j).holder = q) ∧ t.entryHolder rt.entry = q
        ∧ t.vpc.queue = [] ∧ t.vpc.runner = { s.runnerOf v r with
            step := 2, awaiting := .time, stepTimer := some (s.now + seconds d), owned := [q] }
        ∧ t.pts = s.pts ∧ t.td = s.td ∧ t.dat = s.dat
        ∧ ∃ m, t.hl = s.hl.raised (visitorRecord v.script .started v.button 0
            :: routeRecord q .locked .free .requested :: m ++ [visitorRecord v.script .step 1 0]))
      ∧ (∀ n, r.steps.head? = some (.setRoute q) → s.conflict q .visitor = none → (rt.reqs.map (·.point)).Nodup →
        (∃ y ∈ rt.reqs, s.liesAt y.point y.lie = false) → (∀ y ∈ rt.reqs, (s.pointNode y.point).isLost = false) →
        (∀ x, rt.deck = some x → s.ttc.alignedAt x.1 x.2 = true) → s.freeContext = some n →
        ∃ t, exec .scriptStart s = .next t ∧ (t.route q).state = .setting ∧ (t.route q).origin = some .visitor
        ∧ (t.route q).context = n ∧ (t.context n).route = q ∧ t.vpc.queue = []
        ∧ t.vpc.runner = { s.runnerOf v r with awaiting := .route, stepRoute := q, owned := [q] }
        ∧ t.td = s.td ∧ t.dat = s.dat)
      ∧ (∀ y, r.steps.head? = some (.setRoute q) → s.conflict q .visitor = none → rt.reqs = [y] →
        s.liesAt y.point y.lie = false → (s.point y.point).order = none → (s.pointNode y.point).isLost = true →
        ∃ t m, exec .scriptStart s = .next t ∧ t.route q = { cause := .nodeLost }
        ∧ t.ScriptAborted s v.script r .stepFailed 1 (.routeCause .nodeLost)
        ∧ (∀ j ∈ rt.path, t.lock j = {}) ∧ t.entryHolder rt.entry ≠ q
        ∧ t.hl = s.hl.raised (visitorRecord v.script .started v.button 0
            :: eventOf .pointFailed .points y.point (lieCode y.lie) 3 (s.detected y.point).code
            :: routeRecord q .restoring .free .nodeLost :: m ++ [visitorRecord v.script .aborted 1 1]))
      ∧ (∀ c, r.steps.head? = some (.setRoute q) → s.conflict q .visitor = some c →
        ∃ t, exec .scriptStart s = .next t ∧ t.rie.heldQueue = [q] ∧ t.route q = {
            state := .held, origin := some .visitor, heldReason := some c, cause := .conflict c,
            hold := .runs (s.now + seconds (min (max 1 r.maxRuntime) 600)) }
        ∧ t.vpc.queue = [] ∧ t.vpc.runner = { s.runnerOf v r with awaiting := .route, stepRoute := q, owned := [q] }
        ∧ t.rie.locks = s.rie.locks ∧ t.pts = s.pts ∧ t.ttc = s.ttc
        ∧ ∃ m, t.hl = s.hl.raised (visitorRecord v.script .started v.button 0
            :: routeRecord q .held .free (.conflict c) :: m))))
  ∧ ∀ (k q e n : Nat) (r : ScriptRec) (rt : RouteRec) (o : Origin) (s : State), s.OneScript k r →
    1 ≤ q → q ≤ 192 → s.routeRec q = some rt → s.vpc.runner.step = n →
    (s.vpc.runner.awaiting = .route → s.vpc.runner.stepRoute = q → s.vpc.runner.owned = [q] → s.rie.heldQueue = [q] →
      (s.route q).state = .held →
      ((s.route q).hold = .runs e →
        ∃ t m, exec (.heldExpiry q) s = .next t ∧ t.now = max s.now e ∧ t.route q = { cause := .expired }
        ∧ t.rie.heldQueue = [] ∧ t.ScriptAborted s k r .stepFailed n (.routeCause .expired)
        ∧ t.rie.locks = s.rie.locks ∧ t.pts = s.pts ∧ t.ttc = s.ttc
        ∧ t.hl = s.hl.raised (heldExpiredRecord q (s.route q) :: routeRecord q .free .held .expired :: m
            ++ [visitorRecord k .aborted 1 n]))
      ∧ (o = (s.route q).origin.getD .auto → s.routeCheck o q ≠ .noAuthority → s.conflict q o = none →
        rt.deck = none → (∀ y ∈ rt.reqs, s.liesAt y.point y.lie = true) → r.steps.length ≤ n →
        ∃ t m, exec .heldRouteRescan s = .next t ∧ (t.route q).state = .locked ∧ t.rie.heldQueue = []
        ∧ (∀ j ∈ rt.path ++ rt.overlap, (t.lock j).holder = q) ∧ t.ScriptEnded s k r
        ∧ t.vpc.lastAbort = s.vpc.lastAbort
        ∧ t.hl = s.hl.raised (routeRecord q .locked .held .requested :: m
            ++ [visitorRecord k .step n 0, visitorRecord k .completed s.vpc.runner.button 0])))
    ∧ (s.vpc.runner.awaiting = .time → s.vpc.runner.stepTimer = some e → s.rie.heldQueue = [] →
      r.steps[n]? = some (.cancelRoute q) → r.steps.length = n + 1 →
      (q ∉ s.vpc.runner.owned ∨ ((s.route q).state = .inUse ∧ (s.route q).forced = false
          ∧ (s.route q).origin = some .visitor) →
        ∃ t, exec .stepTimerExpired s = .next t ∧ t.now = max s.now e ∧ t.ScriptEnded s k r
        ∧ t.hl = s.hl.raised [visitorRecord k .step n 0, visitorRecord k .step (n + 1) 0,
                              visitorRecord k .completed s.vpc.runner.button 0]
        ∧ t.SameBelow s)
      ∧ (q ∈ s.vpc.runner.owned → (s.route q).state = .locked → (s.route q).origin = some .visitor →
        (s.route q).forced = false → (s.route q).fleet = false → (s.route q).clearedOnce = false →
        (s.route q).released = [] → (s.route q).overlapReleased = false →
        ∃ t m, exec .stepTimerExpired s = .next t ∧ t.route q = { cause := .cancelled } ∧ t.ScriptEnded s k r
        ∧ (∀ j ∈ rt.path, t.lock j = {}) ∧ t.entryHolder rt.entry ≠ q ∧ t.pts = s.pts
        ∧ t.hl = s.hl.raised (visitorRecord k .step n 0 :: routeRecord q .free .locked .cancelled :: m
            ++ [visitorRecord k .step (n + 1) 0, visitorRecord k .completed s.vpc.runner.button 0])))

/-- R163, R164, R154, R60, R167: a TURN_TABLE step that is refused, that finds the deck as asked, or that waits for the move, and
what the end of the move makes of it; a WAIT_CLEAR and a WAIT_ARRIVAL step met at once, or while they wait, by the track piece
clearing and by a train described there; and the aborts by the working enable going OFF, which drops the visitors that wait,
and by an assignment after which the script check fails. An expiry brings the time base to its time (log 2), and SAU's records of an
event stand before the VISITOR records (log 9). -/
def Obligations.ScriptWaitsAndAborts : Prop :=
  (∀ (x d n : Nat) (e : DeckEndAsked) (v : VisitorEntry) (r : ScriptRec) (tt : TurntableRec) (rd : RoadRec) (w : TrainWork)
      (more : List ScriptStep) (s : State), s.OneVisitor v r →
    (s.tables.turntable = some tt → 1 ≤ x → x ≤ 24 →
      (∀ c, r.steps.head? = some (.turnTable x e) →
        (s.districtCheck .visitor s.deckDistrict = .noAuthority ∧ c = .noAuthority)
          ∨ (s.districtCheck .visitor s.deckDistrict = .localRelease ∧ c = .localRelease)
          ∨ (s.districtCheck .visitor s.deckDistrict = .pass
            ∧ ((s.ttc.deckOwner ≠ 0 ∧ c = .tableOwned)
              ∨ (s.ttc.deckOwner = 0 ∧ s.ttc.state.isMoving = true ∧ c = .busy))) →
        ∃ t, exec .scriptStart s = .next t ∧ t.vpc.queue = []
        ∧ t.ScriptAborted s v.script r .stepFailed 1 (.refusal c)
        ∧ t.hl = s.hl.raised [visitorRecord v.script .started v.button 0, visitorRecord v.script .aborted 1 1]
        ∧ t.SameBelow s)
      ∧ (s.districtCheck .visitor s.deckDistrict = .pass → s.ttc.deckOwner = 0 →
        s.ttc.state = .aligned ∨ s.ttc.state = .stopped → s.tables.roads.get? x = some rd →
        Tables.askedAdmitted e rd.endsAllowed = true →
        (s.facesAlready x rd.endsAllowed e = true → r.steps = .turnTable x e :: .pause d :: more →
          ∃ t, exec .scriptStart s = .next t ∧ t.vpc.queue = [] ∧ t.vpc.runner = { s.runnerOf v r with
              step := 2, awaiting := .time, stepTimer := some (s.now + seconds d) }
          ∧ t.hl = s.hl.raised [visitorRecord v.script .started v.button 0, visitorRecord v.script .step 1 0]
          ∧ t.SameBelow s)
        ∧ ∀ leg legs, s.facesAlready x rd.endsAllowed e = false → s.deckOccupancy ≠ .unknown → s.overhangs = false →
          tt.planTo s.ttc.p s.ttc.a (tt.target (s.tables.roadPos rd)
            (tt.chooseEnd s.ttc.p (s.tables.roadPos rd) rd.endsAllowed e)) = some (leg :: legs) →
          tt.boltPresent = true → s.ttc.boltLevel = true → r.steps.head? = some (.turnTable x e) →
          ∃ t m mv, exec .scriptStart s = .next t ∧ t.ttc.state = .unbolting ∧ t.ttc.move = some mv
          ∧ mv.road = x ∧ mv.origin = .visitor ∧ mv.context = 0 ∧ mv.legs = leg :: legs
          ∧ t.vpc.queue = [] ∧ t.vpc.runner = { s.runnerOf v r with awaiting := .table }
          ∧ t.hl = s.hl.raised (visitorRecord v.script .started v.button 0
              :: eventOf .tableState .table 1 TtcState.unbolting.code s.ttc.state.code s.ttc.p :: m)
          ∧ t.rie.locks = s.rie.locks ∧ t.pts = s.pts))
    ∧ (r.steps = [.waitClear x d] → s.occupancy x = .clear →
      ∃ t, exec .scriptStart s = .next t ∧ t.vpc.queue = [] ∧ t.ScriptEnded s v.script r
      ∧ t.hl = s.hl.raised [visitorRecord v.script .started v.button 0, visitorRecord v.script .step 1 0,
                            visitorRecord v.script .completed v.button 0]
      ∧ t.SameBelow s)
    ∧ (s.trainHeaded x = some n → s.td.trains.get? n = some w →
      (r.trainCode = none ∨ r.trainCode = some w.code → r.steps = [.waitArrival x d] →
        ∃ t, exec .scriptStart s = .next t ∧ t.vpc.queue = [] ∧ t.ScriptEnded s v.script r
        ∧ t.vpc.arrival = some { position := n, code := w.code, cls := w.cls }
        ∧ t.hl = s.hl.raised [visitorRecord v.script .started v.button 0, visitorRecord v.script .step 1 n,
                              visitorRecord v.script .completed v.button 0]
        ∧ t.SameBelow s)
      ∧ (∀ c, r.trainCode = some c → c ≠ w.code → r.steps.head? = some (.waitArrival x d) →
        ∃ t, exec .scriptStart s = .next t ∧ t.vpc.queue = [] ∧ t.vpc.runner = { s.runnerOf v r with
            awaiting := .arrival, stepTimer := some (s.now + seconds d) }
        ∧ t.vpc.arrival = none ∧ t.hl = s.hl.raised [visitorRecord v.script .started v.button 0] ∧ t.SameBelow s)))
  ∧ ∀ (k n : Nat) (r : ScriptRec) (s : State), s.OneScript k r → s.rie.heldQueue = [] → s.vpc.runner.step = n →
    (∀ (x at' : Nat) (e : DeckEndAsked) (tt : TurntableRec), s.tables.turntable = some tt → tt.boltPresent = false →
      s.OwnMove → s.vpc.runner.awaiting = .table → s.vpc.runner.owned = [] → n ≠ 0 →
      r.steps[n - 1]? = some (.turnTable x e) → x ≠ 0 → s.ttc.state = .settling → s.ttc.settleAt = some at' →
      (s.FacesAsked x e → r.steps.length ≤ n →
        ∃ t m, exec .settleExpired s = .next t ∧ t.now = max s.now at' ∧ t.ttc.state = .aligned ∧ t.ScriptEnded s k r
        ∧ t.vpc.lastAbort = s.vpc.lastAbort
        ∧ t.hl = s.hl.raised (eventOf .tableState .table 1 TtcState.aligned.code TtcState.settling.code s.ttc.p :: m
            ++ [visitorRecord k .step n 0, visitorRecord k .completed s.vpc.runner.button 0]))
      ∧ (¬ s.FacesAsked x e →
        ∃ t m, exec .settleExpired s = .next t ∧ t.now = max s.now at'
        ∧ t.ttc.state = (if s.tables.faced s.ttc.p .end1 = 0 ∧ s.tables.faced s.ttc.p .end2 = 0 then .stopped else .aligned)
        ∧ t.ScriptAborted s k r .stepFailed n (.tableState t.ttc.state)
        ∧ t.hl = s.hl.raised (eventOf .tableState .table 1 t.ttc.state.code TtcState.settling.code s.ttc.p :: m
            ++ [visitorRecord k .aborted 1 n])))
    ∧ (∀ (x : Exchange) (l : List Bool) (j d : Nat) (new : Occupancy), s.OneChange x l j new → (s.lock j).holder = 0 →
      s.td.trains = [] → s.vpc.runner.awaiting = .clear → n ≠ 0 → r.steps[n - 1]? = some (.waitClear j d) →
      (new = .clear → r.steps.length ≤ n →
        ∃ t m, exec (s.answer x (.detect l)) s = .next t ∧ t.occupancy j = .clear ∧ t.ScriptEnded s k r
        ∧ t.hl = s.hl.raised (trackRecord (j, s.occupancy j, .clear) :: m
            ++ [visitorRecord k .step n 0, visitorRecord k .completed s.vpc.runner.button 0]))
      ∧ (new ≠ .clear → ∃ t, exec (s.answer x (.detect l)) s = .next t ∧ t.occupancy j = new
        ∧ t.vpc.runner = s.vpc.runner))
    ∧ (∀ (code c : List Byte) (track direction cls shown origin : Byte) (dir : TrackEnd) (tc : TrainClass) (sh : Bool)
        (rec : TrackRec) (pos d : Nat), s.hl.inService = none → trainCodeOf code = some c →
      trackEndOf direction = some dir → trainClassOf cls = some tc → yesNoOf shown = some sh → 1 ≤ track.toNat →
      track.toNat ≤ 128 → origin.toNat ≤ 8 → s.trackRec track.toNat = some rec →
      s.districtCheck (originOf origin) rec.district = .pass → s.occupancy track.toNat = .occupied →
      s.trainHolding track.toNat = none → s.trainCoded c = none → s.freePosition = some pos →
      s.vpc.runner.awaiting = .arrival → n ≠ 0 → r.steps[n - 1]? = some (.waitArrival track.toNat d) →
      (r.trainCode = none ∨ r.trainCode = some c → r.steps.length ≤ n →
        ∃ t, exec (.trainInterpose code track direction cls shown origin) s = .next t
        ∧ t.hl.reply = some { kind := 0x38#8, result := .ok, body := .recordPosition pos } ∧ t.ScriptEnded s k r
        ∧ t.vpc.arrival = some { position := pos, code := c, cls := tc }
        ∧ t.hl.queue = (s.hl.raised [visitorRecord k .step n pos,
                                     visitorRecord k .completed s.vpc.runner.button 0]).queue)
      ∧ (∀ other, r.trainCode = some other → other ≠ c →
        ∃ t, exec (.trainInterpose code track direction cls shown origin) s = .next t
        ∧ t.hl.reply = some { kind := 0x38#8, result := .ok, body := .recordPosition pos }
        ∧ t.vpc.runner = s.vpc.runner ∧ t.hl.queue = s.hl.queue))
    ∧ (∀ v : List VisitorEntry, s.hl.inService = none → s.vpc.enable = true → s.vpc.runner.owned = [] →
      ∃ t, exec (.visitorEnable 0#8 0#8) { s with vpc := { s.vpc with queue := v } } = .next t ∧ t.Answers 0x48#8 .ok
      ∧ t.vpc.enable = false ∧ t.vpc.queue = [] ∧ t.ScriptAborted s k r .disabled n .none
      ∧ t.hl.queue = (s.hl.raised (visitorRecord k .aborted 4 n
          :: v.map fun y => visitorRecord y.script .dropped 4 y.button)).queue
      ∧ t.rie = s.rie ∧ t.pts = s.pts ∧ t.td = s.td ∧ t.ttc = s.ttc ∧ t.dat = s.dat)
    ∧ ∀ (district owner shared cls : Byte) (sh : Bool) (c : VisitorClass) (w : DistrictWork), s.hl.inService = none →
      1 ≤ district.toNat → district.toNat ≤ 8 → owner.toNat ≤ 8 → yesNoOf shared = some sh →
      visitorClassOf cls = some c →
      w = { s.district district.toNat with owner := owner.toNat, shared := sh, visitorClass := c } →
      w ≠ s.district district.toNat →
      (w.base .visitor = false → district.toNat ∈ s.scriptSet k → s.vpc.runner.owned = [] →
        ∃ t, exec (.districtAssign district owner shared cls 0#8) s = .next t ∧ t.Answers 0x30#8 .ok
        ∧ t.district district.toNat = w ∧ t.ScriptAborted s k r .district n .none
        ∧ t.hl.queue = (s.hl.raised [visitorRecord k .aborted 3 n,
            eventOf .district .routes district.toNat 1 owner.toNat (visitorClassCode c)]).queue
        ∧ t.rie = s.rie ∧ t.pts = s.pts ∧ t.td = s.td ∧ t.ttc = s.ttc)
      ∧ (s.scriptCheck k = .pass → w.base .visitor = true ∨ district.toNat ∉ s.scriptSet k →
        ∃ t, exec (.districtAssign district owner shared cls 0#8) s = .next t ∧ t.Answers 0x30#8 .ok
        ∧ t.district district.toNat = w ∧ t.vpc.runner = s.vpc.runner
        ∧ t.hl.queue = (s.hl.raised [
            eventOf .district .routes district.toNat 1 owner.toNat (visitorClassCode c)]).queue
        ∧ t.rie = s.rie ∧ t.pts = s.pts ∧ t.td = s.td ∧ t.ttc = s.ttc)

/-! ## FLC -/

/-- R21, R22, R25, R26, R27, R28, R31, R32: an exchange of the field loop opens and closes; a good IDENTITY answer brings a
node ONLINE, a miss counts, the third loses a node and its channels, and a detector reading is taken. That the end of the
window brings the time base to it is log 2's choice, the order of the poll cycle and the status fields that a MISMATCH keeps
are log 18's reading. The answers of POINT, SIGNAL and PANEL nodes are stated below. -/
def Obligations.FieldLoopExchanges : Prop :=
  ∀ (a : Nat) (x : Exchange) (s : State), s.inReset = false →
    (s.flc.exchange = none → s.loopRuns = true → s.nextPoll = some a →
      exec .fieldFrameSent s = .next { s with flc := { s.flc with
        lastPolled := a,
        exchange := some { address := a, sent := s.frameFor a, windowAt := s.now + ms s.general.replyWindow } } })
    ∧ (s.flc.exchange ≠ none → exec .fieldFrameSent s = .next s)
    ∧ exec .fieldFrameDiscarded s = .next s
    ∧ (s.flc.exchange = none → ∀ f, exec (.fieldReplyReceived f) s = .next s)
    ∧ (s.flc.exchange = some x → s.Quiet →
      (∀ k low fault, x.sent = .identify → k = (s.nodeRec x.address).kind → k ≠ .absent →
        (s.node x.address).state ≠ .online →
        ∃ t, exec (.fieldReplyReceived { checkGood := true, address := x.address, body := .identity k low fault }) s
          = .next t ∧ t.flc.exchange = none
        ∧ t.node x.address = { state := .online, misses := 0, reportedKind := k, supplyLow := low, driveFault := fault }
        ∧ (∀ b, b ≠ x.address → t.node b = s.node b) ∧ t.flc.tracks = s.flc.tracks ∧ t.flc.points = s.flc.points
        ∧ t.rie.locks = s.rie.locks ∧ t.ttc = s.ttc ∧ t.td = s.td)
      ∧ (∀ k low fault, x.sent = .identify → k ≠ (s.nodeRec x.address).kind →
        ∃ t, exec (.fieldReplyReceived { checkGood := true, address := x.address, body := .identity k low fault }) s
          = .next t ∧ t.flc.exchange = none
        ∧ t.node x.address = { s.node x.address with state := .mismatch, misses := 0, reportedKind := k })
      ∧ (∀ f, f.checkGood = false ∨ f.address ≠ x.address → (s.node x.address).state = .online →
        (s.node x.address).misses = 0 →
        ∃ t, exec (.fieldReplyReceived f) s = .next t ∧ t.flc.exchange = none
        ∧ t.node x.address = { s.node x.address with state := .missing, misses := 1 }
        ∧ t.flc.tracks = s.flc.tracks ∧ t.flc.points = s.flc.points)
      ∧ ((s.node x.address).state = .online ∨ (s.node x.address).state = .missing → (s.node x.address).misses < 2 →
        ∃ t, exec .replyWindowExpired s = .next t ∧ t.now = max s.now x.windowAt ∧ t.flc.exchange = none
        ∧ t.node x.address = { s.node x.address with state := .missing, misses := (s.node x.address).misses + 1 }
        ∧ t.flc.tracks = s.flc.tracks ∧ t.flc.points = s.flc.points ∧ t.rie.locks = s.rie.locks ∧ t.ttc = s.ttc)
      ∧ ((s.node x.address).state = .missing → (s.node x.address).misses = 2 →
        ∃ t, exec .replyWindowExpired s = .next t ∧ t.flc.exchange = none
        ∧ t.node x.address = { s.node x.address with state := .lost, misses := 3 }
        ∧ (∀ k ∈ s.tracksOn x.address, t.trackRead k.1 = {})
        ∧ (∀ p ∈ s.pointsOn x.address, t.pointRead p = {})
        ∧ ((∀ n, (s.context n).phase = .free) → ∀ p ∈ s.pointsOn x.address, (t.point p).order = none)
        ∧ ∀ b, b ≠ x.address → t.node b = s.node b)
      ∧ (∀ l low fault, x.sent ≠ .identify → (s.nodeRec x.address).kind = .detect →
        ∃ t, exec (.fieldReplyReceived { checkGood := true, address := x.address, body := .input (.detect l) low fault })
          s = .next t ∧ t.flc.exchange = none ∧ (t.node x.address).state = .online ∧ (t.node x.address).misses = 0
        ∧ (t.node x.address).supplyLow = low ∧ (t.node x.address).driveFault = fault
        ∧ ∀ k v, k ∈ s.tracksOn x.address → (∀ j ∈ s.tracksOn x.address, j.1 = k.1 → j = k) →
          l[k.2.detInput - 1]? = some v → t.trackRead k.1 = (s.trackRead k.1).read s.general v))
    ∧ ∀ (w : TrackRead) (g : GeneralRec) (occupied : Bool),
      (w.firstPending = true → w.read g occupied
        = { occupancy := if occupied then .occupied else .clear, count := 0, firstPending := false })
      ∧ (w.firstPending = false → w.occupancy = (if occupied then .occupied else .clear) →
        w.read g occupied = { w with count := 0 })
      ∧ (w.firstPending = false → w.occupancy ≠ (if occupied then .occupied else .clear) →
        w.count + 1 < (if occupied then g.occupyCount else g.clearCount) →
        w.read g occupied = { w with count := w.count + 1 })
      ∧ (w.firstPending = false → w.occupancy ≠ (if occupied then .occupied else .clear) →
        (if occupied then g.occupyCount else g.clearCount) ≤ w.count + 1 →
        w.read g occupied = { w with occupancy := (if occupied then .occupied else .clear), count := 0 })

/-- R24, R34, R39, R41, R44 to R47, R50: an answer of a POINT node that drives one point: the reading and the rule of two
alike, the acknowledgement of PULSE, RUN and STOP, an order that completes by the acknowledgement or by the reading, the
first commanded lie, and unwanted movement with and without a re-drive. Acknowledgements come before readings (log 9);
POINT_UNWANTED comes before the re-drive is placed (log 10). -/
def Obligations.AnswersOfPointNodes : Prop :=
  (∀ v : ContactReading, contactClass v =
    if v.normalMade = v.reverseMade then (if v.normalMade = true then .contactFault else .moving)
    else if v.normalMade = true then .normal else .reverse)
  ∧ ∀ (x : Exchange) (out : List (DriveCommand × Nat)) (c : List ContactReading) (p : Nat) (r : PointRec)
    (v : ContactReading) (new : Detected) (s : State), s.OnePoint x out c p r v → s.Quiet →
    new = s.detectedAfter p (contactClass v) →
    ∃ t, exec (s.answer x (.point c)) s = .next t
    ∧ t.pointRead p = { detected := new, lastReading := some (contactClass v) }
    ∧ (∀ j, j ≠ p → t.pointRead j = s.pointRead j) ∧ t.flc.exchange = none ∧ t.td = s.td ∧ t.dat = s.dat ∧ t.lts = s.lts
    ∧ (s.NothingAwaited out p r v → new = s.detected p → t.pts = s.pts ∧ t.hl = s.hl ∧ t.rie = s.rie ∧ t.ttc = s.ttc)
    ∧ (s.Acknowledged out p r v → new = s.detected p →
      ((s.point p).driveCommand = .stop → t.point p = (s.point p).idle ∧ t.pts.slots = s.pts.slots ∧ t.hl = s.hl)
      ∧ ∀ o, (s.point p).driveCommand ≠ .stop → (s.point p).order = some o → o.phase = .sent →
        (s.lieOf p ≠ some o.lie → t.hl = s.hl ∧ t.rie = s.rie
          ∧ (r.driveKind = .solenoid → t.point p = { (s.point p).idle with
              order := some { o with phase := .proving, limitAt := some (s.now + tenths r.throwLimit) } }
            ∧ ∀ n, 1 ≤ n → n ≤ 4 → t.slot n = if s.slot n = .busy p none then
                .busy p (some (s.now + ms r.pulseMs + ms s.general.rechargeMs)) else s.slot n)
          ∧ (r.driveKind = .motor → t.pts.slots = s.pts.slots ∧ t.point p = { s.point p with
              order := some { o with phase := .driving, limitAt := some (s.now + tenths r.throwLimit) } }))
        ∧ (s.lieOf p = some o.lie → o.FromOrigins → t.hl = s.hl ∧ t.rie = s.rie
          ∧ t.point p = (if r.driveKind = .motor then s.point p else (s.point p).idle).completed r o))
    ∧ (s.NothingAwaited out p r v → new ≠ s.detected p →
      (∀ o, (s.point p).order = some o →
        ((o.phase = .driving ∨ o.phase = .proving) ∧ new.lie? = some o.lie → o.FromOrigins →
          t.point p = (s.point p).completed r o
          ∧ (r.driveKind = .motor → ∀ n, 1 ≤ n → n ≤ 4 → t.slot n ≠ .busy p none)
          ∧ ∃ l, t.hl = s.hl.raised (detectedRecord (p, s.detected p, new) :: l))
        ∧ (¬ ((o.phase = .driving ∨ o.phase = .proving) ∧ new.lie? = some o.lie) → t.pts = s.pts))
      ∧ ((s.point p).order = none →
        (s.holders p = [] → t.pts.queue = s.pts.queue ∧ t.pts.slots = s.pts.slots ∧ t.point p = { s.point p with
          commanded := if (s.point p).commanded = none then new.lie? else (s.point p).commanded })
        ∧ ∀ h hs, s.holders p = h :: hs → (s.point p).commanded ≠ none →
          (new = .unknown ∨ new.lie? = some h.2 ∨ (s.detected p ≠ .unknown ∧ (s.detected p).lie? ≠ some h.2) →
            t.pts = s.pts)
          ∧ (new ≠ .unknown → new.lie? ≠ some h.2 → s.detected p = .unknown ∨ (s.detected p).lie? = some h.2 →
            (s.railActive = true → (s.point p).redriveUsed = false →
              (∃ o, (t.point p).order = some o ∧ o.lie = h.2 ∧ o.cause = .redrive ∧ o.requesters = []
                ∧ o.placedAt = s.now)
              ∧ (t.point p).redriveUsed = true ∧ (t.point p).commanded = (s.point p).commanded
              ∧ ∃ l, t.hl = s.hl.raised (detectedRecord (p, s.detected p, new)
                  :: eventOf .pointUnwanted .alarms p (lieCode h.2) new.code 1 :: l))
            ∧ (s.railActive = false ∨ (s.point p).redriveUsed = true → t.pts = s.pts
              ∧ ∃ l, t.hl = s.hl.raised (detectedRecord (p, s.detected p, new)
                  :: eventOf .pointUnwanted .alarms p (lieCode h.2) new.code 0 :: l)))))

/-- R35, R36, R94, R157, R158: the reading of a head whose aspect is still commanded becomes its proving, and is discarded
where the aspect has changed; a button takes the state in which two readings agree; the press of a button whose lamp is
STEADY queues its script, which starts if none runs, and any other press does nothing. The two aspects are compared by
value (log 17); the first state a button takes is no press (log 16). -/
def Obligations.AnswersOfSignalAndPanelNodes : Prop :=
  (∀ (x : Exchange) (asps : List HeadAspect) (l : List Bool) (h y : Nat) (a : Aspect) (b : Bool) (s : State),
    s.Exchanging x .signal → s.Quiet → x.sent = .signalOutput asps → s.signalsOn x.address = [(h, y)] →
    asps[h - 1]? = some (some a) → l[h - 1]? = some b →
    (a = (s.signal y).commanded → exec (s.answer x (.signal l)) s
      = .next (takeProving y (if b = true then .proven else .notProven) (s.answered x)).settled)
    ∧ (a ≠ (s.signal y).commanded → exec (s.answer x (.signal l)) s = .next (s.answered x).settled))
  ∧ ∀ (x : Exchange) (l : List Bool) (s : State), s.Exchanging x .panel → s.NothingDue → s.rie.heldQueue = [] →
    s.mode ≠ .stopping → s.startable = none →
    ((∀ b v, l[b]? = some v → (s.button (b + 1)).isPress v = false) →
      ∃ t, exec (s.answer x (.panel l)) s = .next t ∧ t.vpc.queue = s.vpc.queue ∧ t.vpc.runner = s.vpc.runner
      ∧ t.hl = s.hl ∧ t.rie = s.rie ∧ t.pts = s.pts ∧ t.ttc = s.ttc ∧ t.td = s.td
      ∧ (∀ b v, l[b]? = some v → t.button (b + 1) = {
          pressed := if (s.button (b + 1)).lastReading = some v then v else (s.button (b + 1)).pressed,
          lastReading := some v,
          confirmed := (s.button (b + 1)).confirmed || decide ((s.button (b + 1)).lastReading = some v) })
      ∧ ∀ b, l.length ≤ b → t.button (b + 1) = s.button (b + 1))
    ∧ ∀ i, l[i]? = some true → (s.button (i + 1)).lastReading = some true → (s.button (i + 1)).pressed = false →
      (s.button (i + 1)).confirmed = true → (∀ b v, b ≠ i → l[b]? = some v → (s.button (b + 1)).isPress v = false) →
      (s.lampOf (i + 1) ≠ .steady ∨ 8 ≤ s.vpc.queue.length →
        ∃ t, exec (s.answer x (.panel l)) s = .next t ∧ (t.button (i + 1)).pressed = true
        ∧ t.vpc.queue = s.vpc.queue ∧ t.vpc.runner = s.vpc.runner ∧ t.hl = s.hl)
      ∧ ∀ k v, s.lampOf (i + 1) = .steady → s.vpc.queue.length < 8 → s.scriptOf (i + 1) = some k →
        v = { button := i + 1, script := k, pressedAt := s.now,
              expiresAt := s.now + seconds s.general.visitorWaitLimit } →
        (s.vpc.runner.script ≠ 0 → ∃ t, exec (s.answer x (.panel l)) s = .next t
          ∧ t.vpc.queue = s.vpc.queue ++ [v] ∧ t.vpc.runner = s.vpc.runner
          ∧ t.hl = s.hl.raised [visitorRecord k .queued (i + 1) (s.vpc.queue.length + 1)])
        ∧ ∀ r d, s.vpc.runner.script = 0 → s.vpc.queue = [] → k ≠ 0 → s.scriptRec k = some r →
          r.steps.head? = some (.pause d) →
          ∃ t, exec (s.answer x (.panel l)) s = .next t ∧ t.vpc.queue = [] ∧ t.vpc.runner = {
            script := k, button := i + 1, step := 1, awaiting := .time, stepTimer := some (s.now + seconds d),
            runtimeAt := some (s.now + seconds r.maxRuntime) }
          ∧ t.hl = s.hl.raised [visitorRecord k .queued (i + 1) 1, visitorRecord k .started (i + 1) 0]
end

