-- ==== Sys2Proof/Laws/State.lean ====
section
/-! SUPPORT. What each named update does to each field of the state: one lemma per field per update. -/

namespace Sys2Proof.Machine

open State

/-! ## `setNode` -/

@[simp] theorem State.setNode_now (s : State) (a : Nat) (w : NodeWork) : (s.setNode a w).now = s.now := rfl
@[simp] theorem State.setNode_inReset (s : State) (a : Nat) (w : NodeWork) : (s.setNode a w).inReset = s.inReset := rfl
@[simp] theorem State.setNode_hl (s : State) (a : Nat) (w : NodeWork) : (s.setNode a w).hl = s.hl := rfl
@[simp] theorem State.setNode_lts (s : State) (a : Nat) (w : NodeWork) : (s.setNode a w).lts = s.lts := rfl
@[simp] theorem State.setNode_flc (s : State) (a : Nat) (w : NodeWork) : (s.setNode a w).flc = { s.flc with nodes := s.flc.nodes.put a w } := rfl
@[simp] theorem State.setNode_pts (s : State) (a : Nat) (w : NodeWork) : (s.setNode a w).pts = s.pts := rfl
@[simp] theorem State.setNode_rie (s : State) (a : Nat) (w : NodeWork) : (s.setNode a w).rie = s.rie := rfl
@[simp] theorem State.setNode_sau (s : State) (a : Nat) (w : NodeWork) : (s.setNode a w).sau = s.sau := rfl
@[simp] theorem State.setNode_dat (s : State) (a : Nat) (w : NodeWork) : (s.setNode a w).dat = s.dat := rfl
@[simp] theorem State.setNode_td (s : State) (a : Nat) (w : NodeWork) : (s.setNode a w).td = s.td := rfl
@[simp] theorem State.setNode_ttc (s : State) (a : Nat) (w : NodeWork) : (s.setNode a w).ttc = s.ttc := rfl
@[simp] theorem State.setNode_vpc (s : State) (a : Nat) (w : NodeWork) : (s.setNode a w).vpc = s.vpc := rfl
@[simp] theorem State.setNode_serial (s : State) (a : Nat) (w : NodeWork) : (s.setNode a w).serial = s.serial := rfl
@[simp] theorem State.setNode_freeUse (s : State) (a : Nat) (w : NodeWork) : (s.setNode a w).freeUse = s.freeUse := rfl
@[simp] theorem State.setNode_work (s : State) (a : Nat) (w : NodeWork) : (s.setNode a w).work = s.work := rfl
@[simp] theorem State.setNode_rescanDue (s : State) (a : Nat) (w : NodeWork) : (s.setNode a w).rescanDue = s.rescanDue := rfl
@[simp] theorem State.setNode_pending (s : State) (a : Nat) (w : NodeWork) : (s.setNode a w).pending = s.pending := rfl

/-! ## `setTrackRead` -/

@[simp] theorem State.setTrackRead_now (s : State) (t : Nat) (w : TrackRead) : (s.setTrackRead t w).now = s.now := rfl
@[simp] theorem State.setTrackRead_inReset (s : State) (t : Nat) (w : TrackRead) : (s.setTrackRead t w).inReset = s.inReset := rfl
@[simp] theorem State.setTrackRead_hl (s : State) (t : Nat) (w : TrackRead) : (s.setTrackRead t w).hl = s.hl := rfl
@[simp] theorem State.setTrackRead_lts (s : State) (t : Nat) (w : TrackRead) : (s.setTrackRead t w).lts = s.lts := rfl
@[simp] theorem State.setTrackRead_flc (s : State) (t : Nat) (w : TrackRead) : (s.setTrackRead t w).flc = { s.flc with tracks := s.flc.tracks.put t w } := rfl
@[simp] theorem State.setTrackRead_pts (s : State) (t : Nat) (w : TrackRead) : (s.setTrackRead t w).pts = s.pts := rfl
@[simp] theorem State.setTrackRead_rie (s : State) (t : Nat) (w : TrackRead) : (s.setTrackRead t w).rie = s.rie := rfl
@[simp] theorem State.setTrackRead_sau (s : State) (t : Nat) (w : TrackRead) : (s.setTrackRead t w).sau = s.sau := rfl
@[simp] theorem State.setTrackRead_dat (s : State) (t : Nat) (w : TrackRead) : (s.setTrackRead t w).dat = s.dat := rfl
@[simp] theorem State.setTrackRead_td (s : State) (t : Nat) (w : TrackRead) : (s.setTrackRead t w).td = s.td := rfl
@[simp] theorem State.setTrackRead_ttc (s : State) (t : Nat) (w : TrackRead) : (s.setTrackRead t w).ttc = s.ttc := rfl
@[simp] theorem State.setTrackRead_vpc (s : State) (t : Nat) (w : TrackRead) : (s.setTrackRead t w).vpc = s.vpc := rfl
@[simp] theorem State.setTrackRead_serial (s : State) (t : Nat) (w : TrackRead) : (s.setTrackRead t w).serial = s.serial := rfl
@[simp] theorem State.setTrackRead_freeUse (s : State) (t : Nat) (w : TrackRead) : (s.setTrackRead t w).freeUse = s.freeUse := rfl
@[simp] theorem State.setTrackRead_work (s : State) (t : Nat) (w : TrackRead) : (s.setTrackRead t w).work = s.work := rfl
@[simp] theorem State.setTrackRead_rescanDue (s : State) (t : Nat) (w : TrackRead) : (s.setTrackRead t w).rescanDue = s.rescanDue := rfl
@[simp] theorem State.setTrackRead_pending (s : State) (t : Nat) (w : TrackRead) : (s.setTrackRead t w).pending = s.pending := rfl

/-! ## `setPointRead` -/

@[simp] theorem State.setPointRead_now (s : State) (p : Nat) (w : PointRead) : (s.setPointRead p w).now = s.now := rfl
@[simp] theorem State.setPointRead_inReset (s : State) (p : Nat) (w : PointRead) : (s.setPointRead p w).inReset = s.inReset := rfl
@[simp] theorem State.setPointRead_hl (s : State) (p : Nat) (w : PointRead) : (s.setPointRead p w).hl = s.hl := rfl
@[simp] theorem State.setPointRead_lts (s : State) (p : Nat) (w : PointRead) : (s.setPointRead p w).lts = s.lts := rfl
@[simp] theorem State.setPointRead_flc (s : State) (p : Nat) (w : PointRead) : (s.setPointRead p w).flc = { s.flc with points := s.flc.points.put p w } := rfl
@[simp] theorem State.setPointRead_pts (s : State) (p : Nat) (w : PointRead) : (s.setPointRead p w).pts = s.pts := rfl
@[simp] theorem State.setPointRead_rie (s : State) (p : Nat) (w : PointRead) : (s.setPointRead p w).rie = s.rie := rfl
@[simp] theorem State.setPointRead_sau (s : State) (p : Nat) (w : PointRead) : (s.setPointRead p w).sau = s.sau := rfl
@[simp] theorem State.setPointRead_dat (s : State) (p : Nat) (w : PointRead) : (s.setPointRead p w).dat = s.dat := rfl
@[simp] theorem State.setPointRead_td (s : State) (p : Nat) (w : PointRead) : (s.setPointRead p w).td = s.td := rfl
@[simp] theorem State.setPointRead_ttc (s : State) (p : Nat) (w : PointRead) : (s.setPointRead p w).ttc = s.ttc := rfl
@[simp] theorem State.setPointRead_vpc (s : State) (p : Nat) (w : PointRead) : (s.setPointRead p w).vpc = s.vpc := rfl
@[simp] theorem State.setPointRead_serial (s : State) (p : Nat) (w : PointRead) : (s.setPointRead p w).serial = s.serial := rfl
@[simp] theorem State.setPointRead_freeUse (s : State) (p : Nat) (w : PointRead) : (s.setPointRead p w).freeUse = s.freeUse := rfl
@[simp] theorem State.setPointRead_work (s : State) (p : Nat) (w : PointRead) : (s.setPointRead p w).work = s.work := rfl
@[simp] theorem State.setPointRead_rescanDue (s : State) (p : Nat) (w : PointRead) : (s.setPointRead p w).rescanDue = s.rescanDue := rfl
@[simp] theorem State.setPointRead_pending (s : State) (p : Nat) (w : PointRead) : (s.setPointRead p w).pending = s.pending := rfl

/-! ## `setProving` -/

@[simp] theorem State.setProving_now (s : State) (x : Nat) (w : Proving) : (s.setProving x w).now = s.now := rfl
@[simp] theorem State.setProving_inReset (s : State) (x : Nat) (w : Proving) : (s.setProving x w).inReset = s.inReset := rfl
@[simp] theorem State.setProving_hl (s : State) (x : Nat) (w : Proving) : (s.setProving x w).hl = s.hl := rfl
@[simp] theorem State.setProving_lts (s : State) (x : Nat) (w : Proving) : (s.setProving x w).lts = s.lts := rfl
@[simp] theorem State.setProving_flc (s : State) (x : Nat) (w : Proving) : (s.setProving x w).flc = { s.flc with heads := s.flc.heads.put x w } := rfl
@[simp] theorem State.setProving_pts (s : State) (x : Nat) (w : Proving) : (s.setProving x w).pts = s.pts := rfl
@[simp] theorem State.setProving_rie (s : State) (x : Nat) (w : Proving) : (s.setProving x w).rie = s.rie := rfl
@[simp] theorem State.setProving_sau (s : State) (x : Nat) (w : Proving) : (s.setProving x w).sau = s.sau := rfl
@[simp] theorem State.setProving_dat (s : State) (x : Nat) (w : Proving) : (s.setProving x w).dat = s.dat := rfl
@[simp] theorem State.setProving_td (s : State) (x : Nat) (w : Proving) : (s.setProving x w).td = s.td := rfl
@[simp] theorem State.setProving_ttc (s : State) (x : Nat) (w : Proving) : (s.setProving x w).ttc = s.ttc := rfl
@[simp] theorem State.setProving_vpc (s : State) (x : Nat) (w : Proving) : (s.setProving x w).vpc = s.vpc := rfl
@[simp] theorem State.setProving_serial (s : State) (x : Nat) (w : Proving) : (s.setProving x w).serial = s.serial := rfl
@[simp] theorem State.setProving_freeUse (s : State) (x : Nat) (w : Proving) : (s.setProving x w).freeUse = s.freeUse := rfl
@[simp] theorem State.setProving_work (s : State) (x : Nat) (w : Proving) : (s.setProving x w).work = s.work := rfl
@[simp] theorem State.setProving_rescanDue (s : State) (x : Nat) (w : Proving) : (s.setProving x w).rescanDue = s.rescanDue := rfl
@[simp] theorem State.setProving_pending (s : State) (x : Nat) (w : Proving) : (s.setProving x w).pending = s.pending := rfl

/-! ## `setButton` -/

@[simp] theorem State.setButton_now (s : State) (b : Nat) (w : ButtonRead) : (s.setButton b w).now = s.now := rfl
@[simp] theorem State.setButton_inReset (s : State) (b : Nat) (w : ButtonRead) : (s.setButton b w).inReset = s.inReset := rfl
@[simp] theorem State.setButton_hl (s : State) (b : Nat) (w : ButtonRead) : (s.setButton b w).hl = s.hl := rfl
@[simp] theorem State.setButton_lts (s : State) (b : Nat) (w : ButtonRead) : (s.setButton b w).lts = s.lts := rfl
@[simp] theorem State.setButton_flc (s : State) (b : Nat) (w : ButtonRead) : (s.setButton b w).flc = { s.flc with buttons := s.flc.buttons.put b w } := rfl
@[simp] theorem State.setButton_pts (s : State) (b : Nat) (w : ButtonRead) : (s.setButton b w).pts = s.pts := rfl
@[simp] theorem State.setButton_rie (s : State) (b : Nat) (w : ButtonRead) : (s.setButton b w).rie = s.rie := rfl
@[simp] theorem State.setButton_sau (s : State) (b : Nat) (w : ButtonRead) : (s.setButton b w).sau = s.sau := rfl
@[simp] theorem State.setButton_dat (s : State) (b : Nat) (w : ButtonRead) : (s.setButton b w).dat = s.dat := rfl
@[simp] theorem State.setButton_td (s : State) (b : Nat) (w : ButtonRead) : (s.setButton b w).td = s.td := rfl
@[simp] theorem State.setButton_ttc (s : State) (b : Nat) (w : ButtonRead) : (s.setButton b w).ttc = s.ttc := rfl
@[simp] theorem State.setButton_vpc (s : State) (b : Nat) (w : ButtonRead) : (s.setButton b w).vpc = s.vpc := rfl
@[simp] theorem State.setButton_serial (s : State) (b : Nat) (w : ButtonRead) : (s.setButton b w).serial = s.serial := rfl
@[simp] theorem State.setButton_freeUse (s : State) (b : Nat) (w : ButtonRead) : (s.setButton b w).freeUse = s.freeUse := rfl
@[simp] theorem State.setButton_work (s : State) (b : Nat) (w : ButtonRead) : (s.setButton b w).work = s.work := rfl
@[simp] theorem State.setButton_rescanDue (s : State) (b : Nat) (w : ButtonRead) : (s.setButton b w).rescanDue = s.rescanDue := rfl
@[simp] theorem State.setButton_pending (s : State) (b : Nat) (w : ButtonRead) : (s.setButton b w).pending = s.pending := rfl

/-! ## `setExchange` -/

@[simp] theorem State.setExchange_now (s : State) (e : Option Exchange) : (s.setExchange e).now = s.now := rfl
@[simp] theorem State.setExchange_inReset (s : State) (e : Option Exchange) : (s.setExchange e).inReset = s.inReset := rfl
@[simp] theorem State.setExchange_hl (s : State) (e : Option Exchange) : (s.setExchange e).hl = s.hl := rfl
@[simp] theorem State.setExchange_lts (s : State) (e : Option Exchange) : (s.setExchange e).lts = s.lts := rfl
@[simp] theorem State.setExchange_flc (s : State) (e : Option Exchange) : (s.setExchange e).flc = { s.flc with exchange := e } := rfl
@[simp] theorem State.setExchange_pts (s : State) (e : Option Exchange) : (s.setExchange e).pts = s.pts := rfl
@[simp] theorem State.setExchange_rie (s : State) (e : Option Exchange) : (s.setExchange e).rie = s.rie := rfl
@[simp] theorem State.setExchange_sau (s : State) (e : Option Exchange) : (s.setExchange e).sau = s.sau := rfl
@[simp] theorem State.setExchange_dat (s : State) (e : Option Exchange) : (s.setExchange e).dat = s.dat := rfl
@[simp] theorem State.setExchange_td (s : State) (e : Option Exchange) : (s.setExchange e).td = s.td := rfl
@[simp] theorem State.setExchange_ttc (s : State) (e : Option Exchange) : (s.setExchange e).ttc = s.ttc := rfl
@[simp] theorem State.setExchange_vpc (s : State) (e : Option Exchange) : (s.setExchange e).vpc = s.vpc := rfl
@[simp] theorem State.setExchange_serial (s : State) (e : Option Exchange) : (s.setExchange e).serial = s.serial := rfl
@[simp] theorem State.setExchange_freeUse (s : State) (e : Option Exchange) : (s.setExchange e).freeUse = s.freeUse := rfl
@[simp] theorem State.setExchange_work (s : State) (e : Option Exchange) : (s.setExchange e).work = s.work := rfl
@[simp] theorem State.setExchange_rescanDue (s : State) (e : Option Exchange) : (s.setExchange e).rescanDue = s.rescanDue := rfl
@[simp] theorem State.setExchange_pending (s : State) (e : Option Exchange) : (s.setExchange e).pending = s.pending := rfl

/-! ## `setPoint` -/

@[simp] theorem State.setPoint_now (s : State) (p : Nat) (w : PointWork) : (s.setPoint p w).now = s.now := rfl
@[simp] theorem State.setPoint_inReset (s : State) (p : Nat) (w : PointWork) : (s.setPoint p w).inReset = s.inReset := rfl
@[simp] theorem State.setPoint_hl (s : State) (p : Nat) (w : PointWork) : (s.setPoint p w).hl = s.hl := rfl
@[simp] theorem State.setPoint_lts (s : State) (p : Nat) (w : PointWork) : (s.setPoint p w).lts = s.lts := rfl
@[simp] theorem State.setPoint_flc (s : State) (p : Nat) (w : PointWork) : (s.setPoint p w).flc = s.flc := rfl
@[simp] theorem State.setPoint_pts (s : State) (p : Nat) (w : PointWork) : (s.setPoint p w).pts = { s.pts with points := s.pts.points.put p w } := rfl
@[simp] theorem State.setPoint_rie (s : State) (p : Nat) (w : PointWork) : (s.setPoint p w).rie = s.rie := rfl
@[simp] theorem State.setPoint_sau (s : State) (p : Nat) (w : PointWork) : (s.setPoint p w).sau = s.sau := rfl
@[simp] theorem State.setPoint_dat (s : State) (p : Nat) (w : PointWork) : (s.setPoint p w).dat = s.dat := rfl
@[simp] theorem State.setPoint_td (s : State) (p : Nat) (w : PointWork) : (s.setPoint p w).td = s.td := rfl
@[simp] theorem State.setPoint_ttc (s : State) (p : Nat) (w : PointWork) : (s.setPoint p w).ttc = s.ttc := rfl
@[simp] theorem State.setPoint_vpc (s : State) (p : Nat) (w : PointWork) : (s.setPoint p w).vpc = s.vpc := rfl
@[simp] theorem State.setPoint_serial (s : State) (p : Nat) (w : PointWork) : (s.setPoint p w).serial = s.serial := rfl
@[simp] theorem State.setPoint_freeUse (s : State) (p : Nat) (w : PointWork) : (s.setPoint p w).freeUse = s.freeUse := rfl
@[simp] theorem State.setPoint_work (s : State) (p : Nat) (w : PointWork) : (s.setPoint p w).work = s.work := rfl
@[simp] theorem State.setPoint_rescanDue (s : State) (p : Nat) (w : PointWork) : (s.setPoint p w).rescanDue = s.rescanDue := rfl
@[simp] theorem State.setPoint_pending (s : State) (p : Nat) (w : PointWork) : (s.setPoint p w).pending = s.pending := rfl

/-! ## `setSlot` -/

@[simp] theorem State.setSlot_now (s : State) (n : Nat) (w : Slot) : (s.setSlot n w).now = s.now := rfl
@[simp] theorem State.setSlot_inReset (s : State) (n : Nat) (w : Slot) : (s.setSlot n w).inReset = s.inReset := rfl
@[simp] theorem State.setSlot_hl (s : State) (n : Nat) (w : Slot) : (s.setSlot n w).hl = s.hl := rfl
@[simp] theorem State.setSlot_lts (s : State) (n : Nat) (w : Slot) : (s.setSlot n w).lts = s.lts := rfl
@[simp] theorem State.setSlot_flc (s : State) (n : Nat) (w : Slot) : (s.setSlot n w).flc = s.flc := rfl
@[simp] theorem State.setSlot_pts (s : State) (n : Nat) (w : Slot) : (s.setSlot n w).pts = { s.pts with slots := s.pts.slots.put n w } := rfl
@[simp] theorem State.setSlot_rie (s : State) (n : Nat) (w : Slot) : (s.setSlot n w).rie = s.rie := rfl
@[simp] theorem State.setSlot_sau (s : State) (n : Nat) (w : Slot) : (s.setSlot n w).sau = s.sau := rfl
@[simp] theorem State.setSlot_dat (s : State) (n : Nat) (w : Slot) : (s.setSlot n w).dat = s.dat := rfl
@[simp] theorem State.setSlot_td (s : State) (n : Nat) (w : Slot) : (s.setSlot n w).td = s.td := rfl
@[simp] theorem State.setSlot_ttc (s : State) (n : Nat) (w : Slot) : (s.setSlot n w).ttc = s.ttc := rfl
@[simp] theorem State.setSlot_vpc (s : State) (n : Nat) (w : Slot) : (s.setSlot n w).vpc = s.vpc := rfl
@[simp] theorem State.setSlot_serial (s : State) (n : Nat) (w : Slot) : (s.setSlot n w).serial = s.serial := rfl
@[simp] theorem State.setSlot_freeUse (s : State) (n : Nat) (w : Slot) : (s.setSlot n w).freeUse = s.freeUse := rfl
@[simp] theorem State.setSlot_work (s : State) (n : Nat) (w : Slot) : (s.setSlot n w).work = s.work := rfl
@[simp] theorem State.setSlot_rescanDue (s : State) (n : Nat) (w : Slot) : (s.setSlot n w).rescanDue = s.rescanDue := rfl
@[simp] theorem State.setSlot_pending (s : State) (n : Nat) (w : Slot) : (s.setSlot n w).pending = s.pending := rfl

/-! ## `setThrowQueue` -/

@[simp] theorem State.setThrowQueue_now (s : State) (l : List Nat) : (s.setThrowQueue l).now = s.now := rfl
@[simp] theorem State.setThrowQueue_inReset (s : State) (l : List Nat) : (s.setThrowQueue l).inReset = s.inReset := rfl
@[simp] theorem State.setThrowQueue_hl (s : State) (l : List Nat) : (s.setThrowQueue l).hl = s.hl := rfl
@[simp] theorem State.setThrowQueue_lts (s : State) (l : List Nat) : (s.setThrowQueue l).lts = s.lts := rfl
@[simp] theorem State.setThrowQueue_flc (s : State) (l : List Nat) : (s.setThrowQueue l).flc = s.flc := rfl
@[simp] theorem State.setThrowQueue_pts (s : State) (l : List Nat) : (s.setThrowQueue l).pts = { s.pts with queue := l } := rfl
@[simp] theorem State.setThrowQueue_rie (s : State) (l : List Nat) : (s.setThrowQueue l).rie = s.rie := rfl
@[simp] theorem State.setThrowQueue_sau (s : State) (l : List Nat) : (s.setThrowQueue l).sau = s.sau := rfl
@[simp] theorem State.setThrowQueue_dat (s : State) (l : List Nat) : (s.setThrowQueue l).dat = s.dat := rfl
@[simp] theorem State.setThrowQueue_td (s : State) (l : List Nat) : (s.setThrowQueue l).td = s.td := rfl
@[simp] theorem State.setThrowQueue_ttc (s : State) (l : List Nat) : (s.setThrowQueue l).ttc = s.ttc := rfl
@[simp] theorem State.setThrowQueue_vpc (s : State) (l : List Nat) : (s.setThrowQueue l).vpc = s.vpc := rfl
@[simp] theorem State.setThrowQueue_serial (s : State) (l : List Nat) : (s.setThrowQueue l).serial = s.serial := rfl
@[simp] theorem State.setThrowQueue_freeUse (s : State) (l : List Nat) : (s.setThrowQueue l).freeUse = s.freeUse := rfl
@[simp] theorem State.setThrowQueue_work (s : State) (l : List Nat) : (s.setThrowQueue l).work = s.work := rfl
@[simp] theorem State.setThrowQueue_rescanDue (s : State) (l : List Nat) : (s.setThrowQueue l).rescanDue = s.rescanDue := rfl
@[simp] theorem State.setThrowQueue_pending (s : State) (l : List Nat) : (s.setThrowQueue l).pending = s.pending := rfl

/-! ## `setRoute` -/

@[simp] theorem State.setRoute_now (s : State) (q : Nat) (w : RouteWork) : (s.setRoute q w).now = s.now := rfl
@[simp] theorem State.setRoute_inReset (s : State) (q : Nat) (w : RouteWork) : (s.setRoute q w).inReset = s.inReset := rfl
@[simp] theorem State.setRoute_hl (s : State) (q : Nat) (w : RouteWork) : (s.setRoute q w).hl = s.hl := rfl
@[simp] theorem State.setRoute_lts (s : State) (q : Nat) (w : RouteWork) : (s.setRoute q w).lts = s.lts := rfl
@[simp] theorem State.setRoute_flc (s : State) (q : Nat) (w : RouteWork) : (s.setRoute q w).flc = s.flc := rfl
@[simp] theorem State.setRoute_pts (s : State) (q : Nat) (w : RouteWork) : (s.setRoute q w).pts = s.pts := rfl
@[simp] theorem State.setRoute_rie (s : State) (q : Nat) (w : RouteWork) : (s.setRoute q w).rie = { s.rie with routes := s.rie.routes.put q w } := rfl
@[simp] theorem State.setRoute_sau (s : State) (q : Nat) (w : RouteWork) : (s.setRoute q w).sau = s.sau := rfl
@[simp] theorem State.setRoute_dat (s : State) (q : Nat) (w : RouteWork) : (s.setRoute q w).dat = s.dat := rfl
@[simp] theorem State.setRoute_td (s : State) (q : Nat) (w : RouteWork) : (s.setRoute q w).td = s.td := rfl
@[simp] theorem State.setRoute_ttc (s : State) (q : Nat) (w : RouteWork) : (s.setRoute q w).ttc = s.ttc := rfl
@[simp] theorem State.setRoute_vpc (s : State) (q : Nat) (w : RouteWork) : (s.setRoute q w).vpc = s.vpc := rfl
@[simp] theorem State.setRoute_serial (s : State) (q : Nat) (w : RouteWork) : (s.setRoute q w).serial = s.serial := rfl
@[simp] theorem State.setRoute_freeUse (s : State) (q : Nat) (w : RouteWork) : (s.setRoute q w).freeUse = s.freeUse := rfl
@[simp] theorem State.setRoute_work (s : State) (q : Nat) (w : RouteWork) : (s.setRoute q w).work = s.work := rfl
@[simp] theorem State.setRoute_rescanDue (s : State) (q : Nat) (w : RouteWork) : (s.setRoute q w).rescanDue = s.rescanDue := rfl
@[simp] theorem State.setRoute_pending (s : State) (q : Nat) (w : RouteWork) : (s.setRoute q w).pending = s.pending := rfl

/-! ## `setLock` -/

@[simp] theorem State.setLock_now (s : State) (t : Nat) (w : Lock) : (s.setLock t w).now = s.now := rfl
@[simp] theorem State.setLock_inReset (s : State) (t : Nat) (w : Lock) : (s.setLock t w).inReset = s.inReset := rfl
@[simp] theorem State.setLock_hl (s : State) (t : Nat) (w : Lock) : (s.setLock t w).hl = s.hl := rfl
@[simp] theorem State.setLock_lts (s : State) (t : Nat) (w : Lock) : (s.setLock t w).lts = s.lts := rfl
@[simp] theorem State.setLock_flc (s : State) (t : Nat) (w : Lock) : (s.setLock t w).flc = s.flc := rfl
@[simp] theorem State.setLock_pts (s : State) (t : Nat) (w : Lock) : (s.setLock t w).pts = s.pts := rfl
@[simp] theorem State.setLock_rie (s : State) (t : Nat) (w : Lock) : (s.setLock t w).rie = { s.rie with locks := s.rie.locks.put t w } := rfl
@[simp] theorem State.setLock_sau (s : State) (t : Nat) (w : Lock) : (s.setLock t w).sau = s.sau := rfl
@[simp] theorem State.setLock_dat (s : State) (t : Nat) (w : Lock) : (s.setLock t w).dat = s.dat := rfl
@[simp] theorem State.setLock_td (s : State) (t : Nat) (w : Lock) : (s.setLock t w).td = s.td := rfl
@[simp] theorem State.setLock_ttc (s : State) (t : Nat) (w : Lock) : (s.setLock t w).ttc = s.ttc := rfl
@[simp] theorem State.setLock_vpc (s : State) (t : Nat) (w : Lock) : (s.setLock t w).vpc = s.vpc := rfl
@[simp] theorem State.setLock_serial (s : State) (t : Nat) (w : Lock) : (s.setLock t w).serial = s.serial := rfl
@[simp] theorem State.setLock_freeUse (s : State) (t : Nat) (w : Lock) : (s.setLock t w).freeUse = s.freeUse := rfl
@[simp] theorem State.setLock_work (s : State) (t : Nat) (w : Lock) : (s.setLock t w).work = s.work := rfl
@[simp] theorem State.setLock_rescanDue (s : State) (t : Nat) (w : Lock) : (s.setLock t w).rescanDue = s.rescanDue := rfl
@[simp] theorem State.setLock_pending (s : State) (t : Nat) (w : Lock) : (s.setLock t w).pending = s.pending := rfl

/-! ## `setEntryHolder` -/

@[simp] theorem State.setEntryHolder_now (s : State) (x q : Nat) : (s.setEntryHolder x q).now = s.now := rfl
@[simp] theorem State.setEntryHolder_inReset (s : State) (x q : Nat) : (s.setEntryHolder x q).inReset = s.inReset := rfl
@[simp] theorem State.setEntryHolder_hl (s : State) (x q : Nat) : (s.setEntryHolder x q).hl = s.hl := rfl
@[simp] theorem State.setEntryHolder_lts (s : State) (x q : Nat) : (s.setEntryHolder x q).lts = s.lts := rfl
@[simp] theorem State.setEntryHolder_flc (s : State) (x q : Nat) : (s.setEntryHolder x q).flc = s.flc := rfl
@[simp] theorem State.setEntryHolder_pts (s : State) (x q : Nat) : (s.setEntryHolder x q).pts = s.pts := rfl
@[simp] theorem State.setEntryHolder_rie (s : State) (x q : Nat) : (s.setEntryHolder x q).rie = { s.rie with entryHolders := s.rie.entryHolders.put x q } := rfl
@[simp] theorem State.setEntryHolder_sau (s : State) (x q : Nat) : (s.setEntryHolder x q).sau = s.sau := rfl
@[simp] theorem State.setEntryHolder_dat (s : State) (x q : Nat) : (s.setEntryHolder x q).dat = s.dat := rfl
@[simp] theorem State.setEntryHolder_td (s : State) (x q : Nat) : (s.setEntryHolder x q).td = s.td := rfl
@[simp] theorem State.setEntryHolder_ttc (s : State) (x q : Nat) : (s.setEntryHolder x q).ttc = s.ttc := rfl
@[simp] theorem State.setEntryHolder_vpc (s : State) (x q : Nat) : (s.setEntryHolder x q).vpc = s.vpc := rfl
@[simp] theorem State.setEntryHolder_serial (s : State) (x q : Nat) : (s.setEntryHolder x q).serial = s.serial := rfl
@[simp] theorem State.setEntryHolder_freeUse (s : State) (x q : Nat) : (s.setEntryHolder x q).freeUse = s.freeUse := rfl
@[simp] theorem State.setEntryHolder_work (s : State) (x q : Nat) : (s.setEntryHolder x q).work = s.work := rfl
@[simp] theorem State.setEntryHolder_rescanDue (s : State) (x q : Nat) : (s.setEntryHolder x q).rescanDue = s.rescanDue := rfl
@[simp] theorem State.setEntryHolder_pending (s : State) (x q : Nat) : (s.setEntryHolder x q).pending = s.pending := rfl

/-! ## `setHolders` -/

@[simp] theorem State.setHolders_now (s : State) (p : Nat) (l : List (Nat × Lie)) : (s.setHolders p l).now = s.now := rfl
@[simp] theorem State.setHolders_inReset (s : State) (p : Nat) (l : List (Nat × Lie)) : (s.setHolders p l).inReset = s.inReset := rfl
@[simp] theorem State.setHolders_hl (s : State) (p : Nat) (l : List (Nat × Lie)) : (s.setHolders p l).hl = s.hl := rfl
@[simp] theorem State.setHolders_lts (s : State) (p : Nat) (l : List (Nat × Lie)) : (s.setHolders p l).lts = s.lts := rfl
@[simp] theorem State.setHolders_flc (s : State) (p : Nat) (l : List (Nat × Lie)) : (s.setHolders p l).flc = s.flc := rfl
@[simp] theorem State.setHolders_pts (s : State) (p : Nat) (l : List (Nat × Lie)) : (s.setHolders p l).pts = s.pts := rfl
@[simp] theorem State.setHolders_rie (s : State) (p : Nat) (l : List (Nat × Lie)) : (s.setHolders p l).rie = { s.rie with holders := s.rie.holders.put p l } := rfl
@[simp] theorem State.setHolders_sau (s : State) (p : Nat) (l : List (Nat × Lie)) : (s.setHolders p l).sau = s.sau := rfl
@[simp] theorem State.setHolders_dat (s : State) (p : Nat) (l : List (Nat × Lie)) : (s.setHolders p l).dat = s.dat := rfl
@[simp] theorem State.setHolders_td (s : State) (p : Nat) (l : List (Nat × Lie)) : (s.setHolders p l).td = s.td := rfl
@[simp] theorem State.setHolders_ttc (s : State) (p : Nat) (l : List (Nat × Lie)) : (s.setHolders p l).ttc = s.ttc := rfl
@[simp] theorem State.setHolders_vpc (s : State) (p : Nat) (l : List (Nat × Lie)) : (s.setHolders p l).vpc = s.vpc := rfl
@[simp] theorem State.setHolders_serial (s : State) (p : Nat) (l : List (Nat × Lie)) : (s.setHolders p l).serial = s.serial := rfl
@[simp] theorem State.setHolders_freeUse (s : State) (p : Nat) (l : List (Nat × Lie)) : (s.setHolders p l).freeUse = s.freeUse := rfl
@[simp] theorem State.setHolders_work (s : State) (p : Nat) (l : List (Nat × Lie)) : (s.setHolders p l).work = s.work := rfl
@[simp] theorem State.setHolders_rescanDue (s : State) (p : Nat) (l : List (Nat × Lie)) : (s.setHolders p l).rescanDue = s.rescanDue := rfl
@[simp] theorem State.setHolders_pending (s : State) (p : Nat) (l : List (Nat × Lie)) : (s.setHolders p l).pending = s.pending := rfl

/-! ## `setContext` -/

@[simp] theorem State.setContext_now (s : State) (n : Nat) (c : Context) : (s.setContext n c).now = s.now := rfl
@[simp] theorem State.setContext_inReset (s : State) (n : Nat) (c : Context) : (s.setContext n c).inReset = s.inReset := rfl
@[simp] theorem State.setContext_hl (s : State) (n : Nat) (c : Context) : (s.setContext n c).hl = s.hl := rfl
@[simp] theorem State.setContext_lts (s : State) (n : Nat) (c : Context) : (s.setContext n c).lts = s.lts := rfl
@[simp] theorem State.setContext_flc (s : State) (n : Nat) (c : Context) : (s.setContext n c).flc = s.flc := rfl
@[simp] theorem State.setContext_pts (s : State) (n : Nat) (c : Context) : (s.setContext n c).pts = s.pts := rfl
@[simp] theorem State.setContext_rie (s : State) (n : Nat) (c : Context) : (s.setContext n c).rie = { s.rie with contexts := s.rie.contexts.put n c } := rfl
@[simp] theorem State.setContext_sau (s : State) (n : Nat) (c : Context) : (s.setContext n c).sau = s.sau := rfl
@[simp] theorem State.setContext_dat (s : State) (n : Nat) (c : Context) : (s.setContext n c).dat = s.dat := rfl
@[simp] theorem State.setContext_td (s : State) (n : Nat) (c : Context) : (s.setContext n c).td = s.td := rfl
@[simp] theorem State.setContext_ttc (s : State) (n : Nat) (c : Context) : (s.setContext n c).ttc = s.ttc := rfl
@[simp] theorem State.setContext_vpc (s : State) (n : Nat) (c : Context) : (s.setContext n c).vpc = s.vpc := rfl
@[simp] theorem State.setContext_serial (s : State) (n : Nat) (c : Context) : (s.setContext n c).serial = s.serial := rfl
@[simp] theorem State.setContext_freeUse (s : State) (n : Nat) (c : Context) : (s.setContext n c).freeUse = s.freeUse := rfl
@[simp] theorem State.setContext_work (s : State) (n : Nat) (c : Context) : (s.setContext n c).work = s.work := rfl
@[simp] theorem State.setContext_rescanDue (s : State) (n : Nat) (c : Context) : (s.setContext n c).rescanDue = s.rescanDue := rfl
@[simp] theorem State.setContext_pending (s : State) (n : Nat) (c : Context) : (s.setContext n c).pending = s.pending := rfl

/-! ## `setHeldQueue` -/

@[simp] theorem State.setHeldQueue_now (s : State) (l : List Nat) : (s.setHeldQueue l).now = s.now := rfl
@[simp] theorem State.setHeldQueue_inReset (s : State) (l : List Nat) : (s.setHeldQueue l).inReset = s.inReset := rfl
@[simp] theorem State.setHeldQueue_hl (s : State) (l : List Nat) : (s.setHeldQueue l).hl = s.hl := rfl
@[simp] theorem State.setHeldQueue_lts (s : State) (l : List Nat) : (s.setHeldQueue l).lts = s.lts := rfl
@[simp] theorem State.setHeldQueue_flc (s : State) (l : List Nat) : (s.setHeldQueue l).flc = s.flc := rfl
@[simp] theorem State.setHeldQueue_pts (s : State) (l : List Nat) : (s.setHeldQueue l).pts = s.pts := rfl
@[simp] theorem State.setHeldQueue_rie (s : State) (l : List Nat) : (s.setHeldQueue l).rie = { s.rie with heldQueue := l } := rfl
@[simp] theorem State.setHeldQueue_sau (s : State) (l : List Nat) : (s.setHeldQueue l).sau = s.sau := rfl
@[simp] theorem State.setHeldQueue_dat (s : State) (l : List Nat) : (s.setHeldQueue l).dat = s.dat := rfl
@[simp] theorem State.setHeldQueue_td (s : State) (l : List Nat) : (s.setHeldQueue l).td = s.td := rfl
@[simp] theorem State.setHeldQueue_ttc (s : State) (l : List Nat) : (s.setHeldQueue l).ttc = s.ttc := rfl
@[simp] theorem State.setHeldQueue_vpc (s : State) (l : List Nat) : (s.setHeldQueue l).vpc = s.vpc := rfl
@[simp] theorem State.setHeldQueue_serial (s : State) (l : List Nat) : (s.setHeldQueue l).serial = s.serial := rfl
@[simp] theorem State.setHeldQueue_freeUse (s : State) (l : List Nat) : (s.setHeldQueue l).freeUse = s.freeUse := rfl
@[simp] theorem State.setHeldQueue_work (s : State) (l : List Nat) : (s.setHeldQueue l).work = s.work := rfl
@[simp] theorem State.setHeldQueue_rescanDue (s : State) (l : List Nat) : (s.setHeldQueue l).rescanDue = s.rescanDue := rfl
@[simp] theorem State.setHeldQueue_pending (s : State) (l : List Nat) : (s.setHeldQueue l).pending = s.pending := rfl

/-! ## `setSignal` -/

@[simp] theorem State.setSignal_now (s : State) (x : Nat) (w : SignalWork) : (s.setSignal x w).now = s.now := rfl
@[simp] theorem State.setSignal_inReset (s : State) (x : Nat) (w : SignalWork) : (s.setSignal x w).inReset = s.inReset := rfl
@[simp] theorem State.setSignal_hl (s : State) (x : Nat) (w : SignalWork) : (s.setSignal x w).hl = s.hl := rfl
@[simp] theorem State.setSignal_lts (s : State) (x : Nat) (w : SignalWork) : (s.setSignal x w).lts = s.lts := rfl
@[simp] theorem State.setSignal_flc (s : State) (x : Nat) (w : SignalWork) : (s.setSignal x w).flc = s.flc := rfl
@[simp] theorem State.setSignal_pts (s : State) (x : Nat) (w : SignalWork) : (s.setSignal x w).pts = s.pts := rfl
@[simp] theorem State.setSignal_rie (s : State) (x : Nat) (w : SignalWork) : (s.setSignal x w).rie = s.rie := rfl
@[simp] theorem State.setSignal_sau (s : State) (x : Nat) (w : SignalWork) : (s.setSignal x w).sau = s.sau.put x w := rfl
@[simp] theorem State.setSignal_dat (s : State) (x : Nat) (w : SignalWork) : (s.setSignal x w).dat = s.dat := rfl
@[simp] theorem State.setSignal_td (s : State) (x : Nat) (w : SignalWork) : (s.setSignal x w).td = s.td := rfl
@[simp] theorem State.setSignal_ttc (s : State) (x : Nat) (w : SignalWork) : (s.setSignal x w).ttc = s.ttc := rfl
@[simp] theorem State.setSignal_vpc (s : State) (x : Nat) (w : SignalWork) : (s.setSignal x w).vpc = s.vpc := rfl
@[simp] theorem State.setSignal_serial (s : State) (x : Nat) (w : SignalWork) : (s.setSignal x w).serial = s.serial := rfl
@[simp] theorem State.setSignal_freeUse (s : State) (x : Nat) (w : SignalWork) : (s.setSignal x w).freeUse = s.freeUse := rfl
@[simp] theorem State.setSignal_work (s : State) (x : Nat) (w : SignalWork) : (s.setSignal x w).work = s.work := rfl
@[simp] theorem State.setSignal_rescanDue (s : State) (x : Nat) (w : SignalWork) : (s.setSignal x w).rescanDue = s.rescanDue := rfl
@[simp] theorem State.setSignal_pending (s : State) (x : Nat) (w : SignalWork) : (s.setSignal x w).pending = s.pending := rfl

/-! ## `setDistrict` -/

@[simp] theorem State.setDistrict_now (s : State) (d : Nat) (w : DistrictWork) : (s.setDistrict d w).now = s.now := rfl
@[simp] theorem State.setDistrict_inReset (s : State) (d : Nat) (w : DistrictWork) : (s.setDistrict d w).inReset = s.inReset := rfl
@[simp] theorem State.setDistrict_hl (s : State) (d : Nat) (w : DistrictWork) : (s.setDistrict d w).hl = s.hl := rfl
@[simp] theorem State.setDistrict_lts (s : State) (d : Nat) (w : DistrictWork) : (s.setDistrict d w).lts = s.lts := rfl
@[simp] theorem State.setDistrict_flc (s : State) (d : Nat) (w : DistrictWork) : (s.setDistrict d w).flc = s.flc := rfl
@[simp] theorem State.setDistrict_pts (s : State) (d : Nat) (w : DistrictWork) : (s.setDistrict d w).pts = s.pts := rfl
@[simp] theorem State.setDistrict_rie (s : State) (d : Nat) (w : DistrictWork) : (s.setDistrict d w).rie = s.rie := rfl
@[simp] theorem State.setDistrict_sau (s : State) (d : Nat) (w : DistrictWork) : (s.setDistrict d w).sau = s.sau := rfl
@[simp] theorem State.setDistrict_dat (s : State) (d : Nat) (w : DistrictWork) : (s.setDistrict d w).dat = s.dat.put d w := rfl
@[simp] theorem State.setDistrict_td (s : State) (d : Nat) (w : DistrictWork) : (s.setDistrict d w).td = s.td := rfl
@[simp] theorem State.setDistrict_ttc (s : State) (d : Nat) (w : DistrictWork) : (s.setDistrict d w).ttc = s.ttc := rfl
@[simp] theorem State.setDistrict_vpc (s : State) (d : Nat) (w : DistrictWork) : (s.setDistrict d w).vpc = s.vpc := rfl
@[simp] theorem State.setDistrict_serial (s : State) (d : Nat) (w : DistrictWork) : (s.setDistrict d w).serial = s.serial := rfl
@[simp] theorem State.setDistrict_freeUse (s : State) (d : Nat) (w : DistrictWork) : (s.setDistrict d w).freeUse = s.freeUse := rfl
@[simp] theorem State.setDistrict_work (s : State) (d : Nat) (w : DistrictWork) : (s.setDistrict d w).work = s.work := rfl
@[simp] theorem State.setDistrict_rescanDue (s : State) (d : Nat) (w : DistrictWork) : (s.setDistrict d w).rescanDue = s.rescanDue := rfl
@[simp] theorem State.setDistrict_pending (s : State) (d : Nat) (w : DistrictWork) : (s.setDistrict d w).pending = s.pending := rfl

/-! ## `setTrains` -/

@[simp] theorem State.setTrains_now (s : State) (t : Tab TrainWork) : (s.setTrains t).now = s.now := rfl
@[simp] theorem State.setTrains_inReset (s : State) (t : Tab TrainWork) : (s.setTrains t).inReset = s.inReset := rfl
@[simp] theorem State.setTrains_hl (s : State) (t : Tab TrainWork) : (s.setTrains t).hl = s.hl := rfl
@[simp] theorem State.setTrains_lts (s : State) (t : Tab TrainWork) : (s.setTrains t).lts = s.lts := rfl
@[simp] theorem State.setTrains_flc (s : State) (t : Tab TrainWork) : (s.setTrains t).flc = s.flc := rfl
@[simp] theorem State.setTrains_pts (s : State) (t : Tab TrainWork) : (s.setTrains t).pts = s.pts := rfl
@[simp] theorem State.setTrains_rie (s : State) (t : Tab TrainWork) : (s.setTrains t).rie = s.rie := rfl
@[simp] theorem State.setTrains_sau (s : State) (t : Tab TrainWork) : (s.setTrains t).sau = s.sau := rfl
@[simp] theorem State.setTrains_dat (s : State) (t : Tab TrainWork) : (s.setTrains t).dat = s.dat := rfl
@[simp] theorem State.setTrains_td (s : State) (t : Tab TrainWork) : (s.setTrains t).td = { s.td with trains := t } := rfl
@[simp] theorem State.setTrains_ttc (s : State) (t : Tab TrainWork) : (s.setTrains t).ttc = s.ttc := rfl
@[simp] theorem State.setTrains_vpc (s : State) (t : Tab TrainWork) : (s.setTrains t).vpc = s.vpc := rfl
@[simp] theorem State.setTrains_serial (s : State) (t : Tab TrainWork) : (s.setTrains t).serial = s.serial := rfl
@[simp] theorem State.setTrains_freeUse (s : State) (t : Tab TrainWork) : (s.setTrains t).freeUse = s.freeUse := rfl
@[simp] theorem State.setTrains_work (s : State) (t : Tab TrainWork) : (s.setTrains t).work = s.work := rfl
@[simp] theorem State.setTrains_rescanDue (s : State) (t : Tab TrainWork) : (s.setTrains t).rescanDue = s.rescanDue := rfl
@[simp] theorem State.setTrains_pending (s : State) (t : Tab TrainWork) : (s.setTrains t).pending = s.pending := rfl

/-! ## `setTtc` -/

@[simp] theorem State.setTtc_now (s : State) (t : Ttc) : (s.setTtc t).now = s.now := rfl
@[simp] theorem State.setTtc_inReset (s : State) (t : Ttc) : (s.setTtc t).inReset = s.inReset := rfl
@[simp] theorem State.setTtc_hl (s : State) (t : Ttc) : (s.setTtc t).hl = s.hl := rfl
@[simp] theorem State.setTtc_lts (s : State) (t : Ttc) : (s.setTtc t).lts = s.lts := rfl
@[simp] theorem State.setTtc_flc (s : State) (t : Ttc) : (s.setTtc t).flc = s.flc := rfl
@[simp] theorem State.setTtc_pts (s : State) (t : Ttc) : (s.setTtc t).pts = s.pts := rfl
@[simp] theorem State.setTtc_rie (s : State) (t : Ttc) : (s.setTtc t).rie = s.rie := rfl
@[simp] theorem State.setTtc_sau (s : State) (t : Ttc) : (s.setTtc t).sau = s.sau := rfl
@[simp] theorem State.setTtc_dat (s : State) (t : Ttc) : (s.setTtc t).dat = s.dat := rfl
@[simp] theorem State.setTtc_td (s : State) (t : Ttc) : (s.setTtc t).td = s.td := rfl
@[simp] theorem State.setTtc_ttc (s : State) (t : Ttc) : (s.setTtc t).ttc = t := rfl
@[simp] theorem State.setTtc_vpc (s : State) (t : Ttc) : (s.setTtc t).vpc = s.vpc := rfl
@[simp] theorem State.setTtc_serial (s : State) (t : Ttc) : (s.setTtc t).serial = s.serial := rfl
@[simp] theorem State.setTtc_freeUse (s : State) (t : Ttc) : (s.setTtc t).freeUse = s.freeUse := rfl
@[simp] theorem State.setTtc_work (s : State) (t : Ttc) : (s.setTtc t).work = s.work := rfl
@[simp] theorem State.setTtc_rescanDue (s : State) (t : Ttc) : (s.setTtc t).rescanDue = s.rescanDue := rfl
@[simp] theorem State.setTtc_pending (s : State) (t : Ttc) : (s.setTtc t).pending = s.pending := rfl

/-! ## `setVpc` -/

@[simp] theorem State.setVpc_now (s : State) (v : Vpc) : (s.setVpc v).now = s.now := rfl
@[simp] theorem State.setVpc_inReset (s : State) (v : Vpc) : (s.setVpc v).inReset = s.inReset := rfl
@[simp] theorem State.setVpc_hl (s : State) (v : Vpc) : (s.setVpc v).hl = s.hl := rfl
@[simp] theorem State.setVpc_lts (s : State) (v : Vpc) : (s.setVpc v).lts = s.lts := rfl
@[simp] theorem State.setVpc_flc (s : State) (v : Vpc) : (s.setVpc v).flc = s.flc := rfl
@[simp] theorem State.setVpc_pts (s : State) (v : Vpc) : (s.setVpc v).pts = s.pts := rfl
@[simp] theorem State.setVpc_rie (s : State) (v : Vpc) : (s.setVpc v).rie = s.rie := rfl
@[simp] theorem State.setVpc_sau (s : State) (v : Vpc) : (s.setVpc v).sau = s.sau := rfl
@[simp] theorem State.setVpc_dat (s : State) (v : Vpc) : (s.setVpc v).dat = s.dat := rfl
@[simp] theorem State.setVpc_td (s : State) (v : Vpc) : (s.setVpc v).td = s.td := rfl
@[simp] theorem State.setVpc_ttc (s : State) (v : Vpc) : (s.setVpc v).ttc = s.ttc := rfl
@[simp] theorem State.setVpc_vpc (s : State) (v : Vpc) : (s.setVpc v).vpc = v := rfl
@[simp] theorem State.setVpc_serial (s : State) (v : Vpc) : (s.setVpc v).serial = s.serial := rfl
@[simp] theorem State.setVpc_freeUse (s : State) (v : Vpc) : (s.setVpc v).freeUse = s.freeUse := rfl
@[simp] theorem State.setVpc_work (s : State) (v : Vpc) : (s.setVpc v).work = s.work := rfl
@[simp] theorem State.setVpc_rescanDue (s : State) (v : Vpc) : (s.setVpc v).rescanDue = s.rescanDue := rfl
@[simp] theorem State.setVpc_pending (s : State) (v : Vpc) : (s.setVpc v).pending = s.pending := rfl

/-! ## `setRunner` -/

@[simp] theorem State.setRunner_now (s : State) (r : Runner) : (s.setRunner r).now = s.now := rfl
@[simp] theorem State.setRunner_inReset (s : State) (r : Runner) : (s.setRunner r).inReset = s.inReset := rfl
@[simp] theorem State.setRunner_hl (s : State) (r : Runner) : (s.setRunner r).hl = s.hl := rfl
@[simp] theorem State.setRunner_lts (s : State) (r : Runner) : (s.setRunner r).lts = s.lts := rfl
@[simp] theorem State.setRunner_flc (s : State) (r : Runner) : (s.setRunner r).flc = s.flc := rfl
@[simp] theorem State.setRunner_pts (s : State) (r : Runner) : (s.setRunner r).pts = s.pts := rfl
@[simp] theorem State.setRunner_rie (s : State) (r : Runner) : (s.setRunner r).rie = s.rie := rfl
@[simp] theorem State.setRunner_sau (s : State) (r : Runner) : (s.setRunner r).sau = s.sau := rfl
@[simp] theorem State.setRunner_dat (s : State) (r : Runner) : (s.setRunner r).dat = s.dat := rfl
@[simp] theorem State.setRunner_td (s : State) (r : Runner) : (s.setRunner r).td = s.td := rfl
@[simp] theorem State.setRunner_ttc (s : State) (r : Runner) : (s.setRunner r).ttc = s.ttc := rfl
@[simp] theorem State.setRunner_vpc (s : State) (r : Runner) : (s.setRunner r).vpc = { s.vpc with runner := r } := rfl
@[simp] theorem State.setRunner_serial (s : State) (r : Runner) : (s.setRunner r).serial = s.serial := rfl
@[simp] theorem State.setRunner_freeUse (s : State) (r : Runner) : (s.setRunner r).freeUse = s.freeUse := rfl
@[simp] theorem State.setRunner_work (s : State) (r : Runner) : (s.setRunner r).work = s.work := rfl
@[simp] theorem State.setRunner_rescanDue (s : State) (r : Runner) : (s.setRunner r).rescanDue = s.rescanDue := rfl
@[simp] theorem State.setRunner_pending (s : State) (r : Runner) : (s.setRunner r).pending = s.pending := rfl

/-! ## `setHl` -/

@[simp] theorem State.setHl_now (s : State) (h : Hl) : (s.setHl h).now = s.now := rfl
@[simp] theorem State.setHl_inReset (s : State) (h : Hl) : (s.setHl h).inReset = s.inReset := rfl
@[simp] theorem State.setHl_hl (s : State) (h : Hl) : (s.setHl h).hl = h := rfl
@[simp] theorem State.setHl_lts (s : State) (h : Hl) : (s.setHl h).lts = s.lts := rfl
@[simp] theorem State.setHl_flc (s : State) (h : Hl) : (s.setHl h).flc = s.flc := rfl
@[simp] theorem State.setHl_pts (s : State) (h : Hl) : (s.setHl h).pts = s.pts := rfl
@[simp] theorem State.setHl_rie (s : State) (h : Hl) : (s.setHl h).rie = s.rie := rfl
@[simp] theorem State.setHl_sau (s : State) (h : Hl) : (s.setHl h).sau = s.sau := rfl
@[simp] theorem State.setHl_dat (s : State) (h : Hl) : (s.setHl h).dat = s.dat := rfl
@[simp] theorem State.setHl_td (s : State) (h : Hl) : (s.setHl h).td = s.td := rfl
@[simp] theorem State.setHl_ttc (s : State) (h : Hl) : (s.setHl h).ttc = s.ttc := rfl
@[simp] theorem State.setHl_vpc (s : State) (h : Hl) : (s.setHl h).vpc = s.vpc := rfl
@[simp] theorem State.setHl_serial (s : State) (h : Hl) : (s.setHl h).serial = s.serial := rfl
@[simp] theorem State.setHl_freeUse (s : State) (h : Hl) : (s.setHl h).freeUse = s.freeUse := rfl
@[simp] theorem State.setHl_work (s : State) (h : Hl) : (s.setHl h).work = s.work := rfl
@[simp] theorem State.setHl_rescanDue (s : State) (h : Hl) : (s.setHl h).rescanDue = s.rescanDue := rfl
@[simp] theorem State.setHl_pending (s : State) (h : Hl) : (s.setHl h).pending = s.pending := rfl

/-! ## `setLts` -/

@[simp] theorem State.setLts_now (s : State) (l : Lts) : (s.setLts l).now = s.now := rfl
@[simp] theorem State.setLts_inReset (s : State) (l : Lts) : (s.setLts l).inReset = s.inReset := rfl
@[simp] theorem State.setLts_hl (s : State) (l : Lts) : (s.setLts l).hl = s.hl := rfl
@[simp] theorem State.setLts_lts (s : State) (l : Lts) : (s.setLts l).lts = l := rfl
@[simp] theorem State.setLts_flc (s : State) (l : Lts) : (s.setLts l).flc = s.flc := rfl
@[simp] theorem State.setLts_pts (s : State) (l : Lts) : (s.setLts l).pts = s.pts := rfl
@[simp] theorem State.setLts_rie (s : State) (l : Lts) : (s.setLts l).rie = s.rie := rfl
@[simp] theorem State.setLts_sau (s : State) (l : Lts) : (s.setLts l).sau = s.sau := rfl
@[simp] theorem State.setLts_dat (s : State) (l : Lts) : (s.setLts l).dat = s.dat := rfl
@[simp] theorem State.setLts_td (s : State) (l : Lts) : (s.setLts l).td = s.td := rfl
@[simp] theorem State.setLts_ttc (s : State) (l : Lts) : (s.setLts l).ttc = s.ttc := rfl
@[simp] theorem State.setLts_vpc (s : State) (l : Lts) : (s.setLts l).vpc = s.vpc := rfl
@[simp] theorem State.setLts_serial (s : State) (l : Lts) : (s.setLts l).serial = s.serial := rfl
@[simp] theorem State.setLts_freeUse (s : State) (l : Lts) : (s.setLts l).freeUse = s.freeUse := rfl
@[simp] theorem State.setLts_work (s : State) (l : Lts) : (s.setLts l).work = s.work := rfl
@[simp] theorem State.setLts_rescanDue (s : State) (l : Lts) : (s.setLts l).rescanDue = s.rescanDue := rfl
@[simp] theorem State.setLts_pending (s : State) (l : Lts) : (s.setLts l).pending = s.pending := rfl

/-! ## `post` -/

@[simp] theorem State.post_now (s : State) (w : Work) : (s.post w).now = s.now := rfl
@[simp] theorem State.post_inReset (s : State) (w : Work) : (s.post w).inReset = s.inReset := rfl
@[simp] theorem State.post_hl (s : State) (w : Work) : (s.post w).hl = s.hl := rfl
@[simp] theorem State.post_lts (s : State) (w : Work) : (s.post w).lts = s.lts := rfl
@[simp] theorem State.post_flc (s : State) (w : Work) : (s.post w).flc = s.flc := rfl
@[simp] theorem State.post_pts (s : State) (w : Work) : (s.post w).pts = s.pts := rfl
@[simp] theorem State.post_rie (s : State) (w : Work) : (s.post w).rie = s.rie := rfl
@[simp] theorem State.post_sau (s : State) (w : Work) : (s.post w).sau = s.sau := rfl
@[simp] theorem State.post_dat (s : State) (w : Work) : (s.post w).dat = s.dat := rfl
@[simp] theorem State.post_td (s : State) (w : Work) : (s.post w).td = s.td := rfl
@[simp] theorem State.post_ttc (s : State) (w : Work) : (s.post w).ttc = s.ttc := rfl
@[simp] theorem State.post_vpc (s : State) (w : Work) : (s.post w).vpc = s.vpc := rfl
@[simp] theorem State.post_serial (s : State) (w : Work) : (s.post w).serial = s.serial := rfl
@[simp] theorem State.post_freeUse (s : State) (w : Work) : (s.post w).freeUse = s.freeUse := rfl
@[simp] theorem State.post_work (s : State) (w : Work) : (s.post w).work = s.work ++ [w] := rfl
@[simp] theorem State.post_rescanDue (s : State) (w : Work) : (s.post w).rescanDue = s.rescanDue := rfl
@[simp] theorem State.post_pending (s : State) (w : Work) : (s.post w).pending = s.pending := rfl

/-! ## `triggerRescan` -/

@[simp] theorem State.triggerRescan_now (s : State) : (s.triggerRescan).now = s.now := rfl
@[simp] theorem State.triggerRescan_inReset (s : State) : (s.triggerRescan).inReset = s.inReset := rfl
@[simp] theorem State.triggerRescan_hl (s : State) : (s.triggerRescan).hl = s.hl := rfl
@[simp] theorem State.triggerRescan_lts (s : State) : (s.triggerRescan).lts = s.lts := rfl
@[simp] theorem State.triggerRescan_flc (s : State) : (s.triggerRescan).flc = s.flc := rfl
@[simp] theorem State.triggerRescan_pts (s : State) : (s.triggerRescan).pts = s.pts := rfl
@[simp] theorem State.triggerRescan_rie (s : State) : (s.triggerRescan).rie = s.rie := rfl
@[simp] theorem State.triggerRescan_sau (s : State) : (s.triggerRescan).sau = s.sau := rfl
@[simp] theorem State.triggerRescan_dat (s : State) : (s.triggerRescan).dat = s.dat := rfl
@[simp] theorem State.triggerRescan_td (s : State) : (s.triggerRescan).td = s.td := rfl
@[simp] theorem State.triggerRescan_ttc (s : State) : (s.triggerRescan).ttc = s.ttc := rfl
@[simp] theorem State.triggerRescan_vpc (s : State) : (s.triggerRescan).vpc = s.vpc := rfl
@[simp] theorem State.triggerRescan_serial (s : State) : (s.triggerRescan).serial = s.serial := rfl
@[simp] theorem State.triggerRescan_freeUse (s : State) : (s.triggerRescan).freeUse = s.freeUse := rfl
@[simp] theorem State.triggerRescan_work (s : State) : (s.triggerRescan).work = s.work := rfl
@[simp] theorem State.triggerRescan_rescanDue (s : State) : (s.triggerRescan).rescanDue = true := rfl
@[simp] theorem State.triggerRescan_pending (s : State) : (s.triggerRescan).pending = s.pending := rfl

/-! ## `reach` -/

@[simp] theorem State.reach_now (s : State) (t : Nat) : (s.reach t).now = max s.now t := rfl
@[simp] theorem State.reach_inReset (s : State) (t : Nat) : (s.reach t).inReset = s.inReset := rfl
@[simp] theorem State.reach_hl (s : State) (t : Nat) : (s.reach t).hl = s.hl := rfl
@[simp] theorem State.reach_lts (s : State) (t : Nat) : (s.reach t).lts = s.lts := rfl
@[simp] theorem State.reach_flc (s : State) (t : Nat) : (s.reach t).flc = s.flc := rfl
@[simp] theorem State.reach_pts (s : State) (t : Nat) : (s.reach t).pts = s.pts := rfl
@[simp] theorem State.reach_rie (s : State) (t : Nat) : (s.reach t).rie = s.rie := rfl
@[simp] theorem State.reach_sau (s : State) (t : Nat) : (s.reach t).sau = s.sau := rfl
@[simp] theorem State.reach_dat (s : State) (t : Nat) : (s.reach t).dat = s.dat := rfl
@[simp] theorem State.reach_td (s : State) (t : Nat) : (s.reach t).td = s.td := rfl
@[simp] theorem State.reach_ttc (s : State) (t : Nat) : (s.reach t).ttc = s.ttc := rfl
@[simp] theorem State.reach_vpc (s : State) (t : Nat) : (s.reach t).vpc = s.vpc := rfl
@[simp] theorem State.reach_serial (s : State) (t : Nat) : (s.reach t).serial = s.serial := rfl
@[simp] theorem State.reach_freeUse (s : State) (t : Nat) : (s.reach t).freeUse = s.freeUse := rfl
@[simp] theorem State.reach_work (s : State) (t : Nat) : (s.reach t).work = s.work := rfl
@[simp] theorem State.reach_rescanDue (s : State) (t : Nat) : (s.reach t).rescanDue = s.rescanDue := rfl
@[simp] theorem State.reach_pending (s : State) (t : Nat) : (s.reach t).pending = s.pending := rfl

end Sys2Proof.Machine
end

