-- ==== Sys2Proof/Laws/Records.lean ====
section
/-! SUPPORT. Reading a sparse table after a write, and reading a record of the state after a record of its kind is written. -/

namespace Sys2Proof

theorem Tab.get?_put {α : Type} (t : Tab α) (k j : Nat) (v : α) :
    (t.put k v).get? j = if j = k then some v else t.get? j := by
  induction t with
  | nil => by_cases h : j = k <;> simp [Tab.put, Tab.get?, h]
  | cons e t ih =>
    obtain ⟨i, w⟩ := e
    unfold Tab.put
    split
    · by_cases h : j = k <;> simp [Tab.get?, h]
    · split
      · rename_i hk
        subst hk
        by_cases h : j = k <;> simp [Tab.get?, h]
      · rename_i h1 h2
        by_cases h : j = i
        · subst h
          simp [Tab.get?, Ne.symm h2]
        · simp [Tab.get?, h, ih]

@[simp] theorem Tab.getD_put_same {α : Type} (t : Tab α) (k : Nat) (v d : α) : (t.put k v).getD k d = v := by
  simp [Tab.getD, Tab.get?_put]

theorem Tab.getD_put_other {α : Type} (t : Tab α) {k j : Nat} (v d : α) (h : j ≠ k) :
    (t.put k v).getD j d = t.getD j d := by
  simp [Tab.getD, Tab.get?_put, h]

namespace Machine

@[simp] theorem State.node_setNode (s : State) (k : Nat) (w : NodeWork) : (s.setNode k w).node k = w :=
  Tab.getD_put_same _ _ _ _

theorem State.node_setNode_other (s : State) {k j : Nat} (w : NodeWork) (h : j ≠ k) :
    (s.setNode k w).node j = s.node j := Tab.getD_put_other _ _ _ h

@[simp] theorem State.trackRead_setTrackRead (s : State) (k : Nat) (w : TrackRead) : (s.setTrackRead k w).trackRead k = w :=
  Tab.getD_put_same _ _ _ _

theorem State.trackRead_setTrackRead_other (s : State) {k j : Nat} (w : TrackRead) (h : j ≠ k) :
    (s.setTrackRead k w).trackRead j = s.trackRead j := Tab.getD_put_other _ _ _ h

@[simp] theorem State.pointRead_setPointRead (s : State) (k : Nat) (w : PointRead) : (s.setPointRead k w).pointRead k = w :=
  Tab.getD_put_same _ _ _ _

theorem State.pointRead_setPointRead_other (s : State) {k j : Nat} (w : PointRead) (h : j ≠ k) :
    (s.setPointRead k w).pointRead j = s.pointRead j := Tab.getD_put_other _ _ _ h

@[simp] theorem State.proving_setProving (s : State) (k : Nat) (w : Proving) : (s.setProving k w).proving k = w :=
  Tab.getD_put_same _ _ _ _

theorem State.proving_setProving_other (s : State) {k j : Nat} (w : Proving) (h : j ≠ k) :
    (s.setProving k w).proving j = s.proving j := Tab.getD_put_other _ _ _ h

@[simp] theorem State.button_setButton (s : State) (k : Nat) (w : ButtonRead) : (s.setButton k w).button k = w :=
  Tab.getD_put_same _ _ _ _

theorem State.button_setButton_other (s : State) {k j : Nat} (w : ButtonRead) (h : j ≠ k) :
    (s.setButton k w).button j = s.button j := Tab.getD_put_other _ _ _ h

@[simp] theorem State.point_setPoint (s : State) (k : Nat) (w : PointWork) : (s.setPoint k w).point k = w :=
  Tab.getD_put_same _ _ _ _

theorem State.point_setPoint_other (s : State) {k j : Nat} (w : PointWork) (h : j ≠ k) :
    (s.setPoint k w).point j = s.point j := Tab.getD_put_other _ _ _ h

@[simp] theorem State.slot_setSlot (s : State) (k : Nat) (w : Slot) : (s.setSlot k w).slot k = w :=
  Tab.getD_put_same _ _ _ _

theorem State.slot_setSlot_other (s : State) {k j : Nat} (w : Slot) (h : j ≠ k) :
    (s.setSlot k w).slot j = s.slot j := Tab.getD_put_other _ _ _ h

@[simp] theorem State.route_setRoute (s : State) (k : Nat) (w : RouteWork) : (s.setRoute k w).route k = w :=
  Tab.getD_put_same _ _ _ _

theorem State.route_setRoute_other (s : State) {k j : Nat} (w : RouteWork) (h : j ≠ k) :
    (s.setRoute k w).route j = s.route j := Tab.getD_put_other _ _ _ h

@[simp] theorem State.lock_setLock (s : State) (k : Nat) (w : Lock) : (s.setLock k w).lock k = w :=
  Tab.getD_put_same _ _ _ _

theorem State.lock_setLock_other (s : State) {k j : Nat} (w : Lock) (h : j ≠ k) :
    (s.setLock k w).lock j = s.lock j := Tab.getD_put_other _ _ _ h

@[simp] theorem State.entryHolder_setEntryHolder (s : State) (k : Nat) (w : Nat) : (s.setEntryHolder k w).entryHolder k = w :=
  Tab.getD_put_same _ _ _ _

theorem State.entryHolder_setEntryHolder_other (s : State) {k j : Nat} (w : Nat) (h : j ≠ k) :
    (s.setEntryHolder k w).entryHolder j = s.entryHolder j := Tab.getD_put_other _ _ _ h

@[simp] theorem State.holders_setHolders (s : State) (k : Nat) (w : List (Nat × Lie)) : (s.setHolders k w).holders k = w :=
  Tab.getD_put_same _ _ _ _

theorem State.holders_setHolders_other (s : State) {k j : Nat} (w : List (Nat × Lie)) (h : j ≠ k) :
    (s.setHolders k w).holders j = s.holders j := Tab.getD_put_other _ _ _ h

@[simp] theorem State.context_setContext (s : State) (k : Nat) (w : Context) : (s.setContext k w).context k = w :=
  Tab.getD_put_same _ _ _ _

theorem State.context_setContext_other (s : State) {k j : Nat} (w : Context) (h : j ≠ k) :
    (s.setContext k w).context j = s.context j := Tab.getD_put_other _ _ _ h

@[simp] theorem State.signal_setSignal (s : State) (k : Nat) (w : SignalWork) : (s.setSignal k w).signal k = w :=
  Tab.getD_put_same _ _ _ _

theorem State.signal_setSignal_other (s : State) {k j : Nat} (w : SignalWork) (h : j ≠ k) :
    (s.setSignal k w).signal j = s.signal j := Tab.getD_put_other _ _ _ h

@[simp] theorem State.district_setDistrict (s : State) (k : Nat) (w : DistrictWork) : (s.setDistrict k w).district k = w :=
  Tab.getD_put_same _ _ _ _

theorem State.district_setDistrict_other (s : State) {k j : Nat} (w : DistrictWork) (h : j ≠ k) :
    (s.setDistrict k w).district j = s.district j := Tab.getD_put_other _ _ _ h

end Machine

end Sys2Proof
end

