-- ==== Sys2Proof/Laws/Kept.lean ====
section
/-! SUPPORT. `Kept s t`: what the blocks below the host link leave alone while an event runs. `t` has the queue of
commands, the time base, the stored image, the tables, the districts and the request in service of `s`, HL's event queue
has changed by raising events alone, what R91 says of the mode and the E-stop input stands as it stood, and no signal
leaves DANGER where R91 keeps it there. One lemma for each shared operation says that it keeps this.
The operations of `Sys2Proof.Machine.Ops` stand here. -/

namespace Sys2Proof.Machine

structure Kept (s t : State) : Prop where
  now : t.now = s.now
  inReset : t.inReset = s.inReset
  pending : t.pending = s.pending
  serial : t.serial = s.serial
  freeUse : t.freeUse = s.freeUse
  dat : t.dat = s.dat
  lts : t.lts = { s.lts with mode := t.lts.mode }
  hl : ∃ l, t.hl = s.hl.raised l
  stop : s.AllStop → t.AllStop
  run : t.AllStop → s.AllStop
  mode : s.mode ≠ .stopping → t.mode = s.mode
  danger : ∀ x, s.AllStop ∨ s.signalRec x = none → (s.signal x).commanded = .danger → (t.signal x).commanded = .danger

namespace Kept

@[simp] theorem refl (s : State) : Kept s s := ⟨rfl, rfl, rfl, rfl, rfl, rfl, rfl, ⟨[], rfl⟩, id, id, fun _ => rfl, fun _ _ h => h⟩

theorem signalRec {s t : State} (h : Kept s t) (x : Nat) : t.signalRec x = s.signalRec x := by
  simp only [State.signalRec, State.tables]
  rw [h.lts]

theorem trans {s t u : State} (h : Kept s t) (k : Kept t u) : Kept s u := by
  obtain ⟨a, ha⟩ := h.hl
  obtain ⟨b, hb⟩ := k.hl
  refine ⟨k.now.trans h.now, k.inReset.trans h.inReset, k.pending.trans h.pending, k.serial.trans h.serial,
    k.freeUse.trans h.freeUse, k.dat.trans h.dat, ?_, ⟨a ++ b, ?_⟩, fun d => k.stop (h.stop d), fun d => h.run (k.run d),
    fun d => (k.mode (by rw [h.mode d]; exact d)).trans (h.mode d), fun x d e => ?_⟩
  · rw [k.lts, h.lts]
  · rw [hb, ha]
    simp [Hl.raised]
  · exact k.danger x (d.imp h.stop fun n => (h.signalRec x).trans n) (h.danger x d e)

variable {s u : State}

/-- A change of a block that `Kept` says nothing of. -/
theorem side (h : Kept s u) (t : State) (h1 : t.now = u.now) (h2 : t.inReset = u.inReset) (h3 : t.pending = u.pending)
    (h4 : t.serial = u.serial) (h5 : t.freeUse = u.freeUse) (h6 : t.dat = u.dat) (h7 : t.lts = u.lts)
    (h8 : t.hl = u.hl) (h9 : t.sau = u.sau) : Kept s t :=
  h.trans ⟨h1, h2, h3, h4, h5, h6, by rw [h7], ⟨[], by rw [h8]; rfl⟩,
    by simp only [State.AllStop, State.mode, h7, imp_self], by simp only [State.AllStop, State.mode, h7, imp_self],
    fun _ => by simp only [State.mode, h7], by simp [State.signal, h9]⟩

@[simp] theorem setNode (h : Kept s u) (a : Nat) (w : NodeWork) : Kept s (u.setNode a w) := h.side _ rfl rfl rfl rfl rfl rfl rfl rfl rfl
@[simp] theorem setTrackRead (h : Kept s u) (t : Nat) (w : TrackRead) : Kept s (u.setTrackRead t w) := h.side _ rfl rfl rfl rfl rfl rfl rfl rfl rfl
@[simp] theorem setPointRead (h : Kept s u) (p : Nat) (w : PointRead) : Kept s (u.setPointRead p w) := h.side _ rfl rfl rfl rfl rfl rfl rfl rfl rfl
@[simp] theorem setProving (h : Kept s u) (x : Nat) (w : Proving) : Kept s (u.setProving x w) := h.side _ rfl rfl rfl rfl rfl rfl rfl rfl rfl
@[simp] theorem setButton (h : Kept s u) (b : Nat) (w : ButtonRead) : Kept s (u.setButton b w) := h.side _ rfl rfl rfl rfl rfl rfl rfl rfl rfl
@[simp] theorem setExchange (h : Kept s u) (e : Option Exchange) : Kept s (u.setExchange e) := h.side _ rfl rfl rfl rfl rfl rfl rfl rfl rfl
@[simp] theorem setPoint (h : Kept s u) (p : Nat) (w : PointWork) : Kept s (u.setPoint p w) := h.side _ rfl rfl rfl rfl rfl rfl rfl rfl rfl
@[simp] theorem setSlot (h : Kept s u) (n : Nat) (w : Slot) : Kept s (u.setSlot n w) := h.side _ rfl rfl rfl rfl rfl rfl rfl rfl rfl
@[simp] theorem setThrowQueue (h : Kept s u) (l : List Nat) : Kept s (u.setThrowQueue l) := h.side _ rfl rfl rfl rfl rfl rfl rfl rfl rfl
@[simp] theorem setRoute (h : Kept s u) (q : Nat) (w : RouteWork) : Kept s (u.setRoute q w) := h.side _ rfl rfl rfl rfl rfl rfl rfl rfl rfl
@[simp] theorem setLock (h : Kept s u) (t : Nat) (w : Lock) : Kept s (u.setLock t w) := h.side _ rfl rfl rfl rfl rfl rfl rfl rfl rfl
@[simp] theorem setEntryHolder (h : Kept s u) (x q : Nat) : Kept s (u.setEntryHolder x q) := h.side _ rfl rfl rfl rfl rfl rfl rfl rfl rfl
@[simp] theorem setHolders (h : Kept s u) (p : Nat) (l : List (Nat × Lie)) : Kept s (u.setHolders p l) := h.side _ rfl rfl rfl rfl rfl rfl rfl rfl rfl
@[simp] theorem setContext (h : Kept s u) (n : Nat) (c : Context) : Kept s (u.setContext n c) := h.side _ rfl rfl rfl rfl rfl rfl rfl rfl rfl
@[simp] theorem setHeldQueue (h : Kept s u) (l : List Nat) : Kept s (u.setHeldQueue l) := h.side _ rfl rfl rfl rfl rfl rfl rfl rfl rfl
@[simp] theorem setTrains (h : Kept s u) (t : Tab TrainWork) : Kept s (u.setTrains t) := h.side _ rfl rfl rfl rfl rfl rfl rfl rfl rfl
@[simp] theorem setTtc (h : Kept s u) (t : Ttc) : Kept s (u.setTtc t) := h.side _ rfl rfl rfl rfl rfl rfl rfl rfl rfl
@[simp] theorem setVpc (h : Kept s u) (v : Vpc) : Kept s (u.setVpc v) := h.side _ rfl rfl rfl rfl rfl rfl rfl rfl rfl
@[simp] theorem setRunner (h : Kept s u) (r : Runner) : Kept s (u.setRunner r) := h.side _ rfl rfl rfl rfl rfl rfl rfl rfl rfl
@[simp] theorem post (h : Kept s u) (w : Work) : Kept s (u.post w) := h.side _ rfl rfl rfl rfl rfl rfl rfl rfl rfl
@[simp] theorem triggerRescan (h : Kept s u) : Kept s u.triggerRescan := h.side _ rfl rfl rfl rfl rfl rfl rfl rfl rfl

@[simp] theorem raise (h : Kept s u) (e : EventRec) : Kept s (raise e u) :=
  h.trans ⟨rfl, rfl, rfl, rfl, rfl, rfl, rfl, ⟨[e], rfl⟩, id, id, fun _ => rfl, fun _ _ h => h⟩

/-- STOPPING is left. -/
theorem enterMode (h : Kept s u) (m : Mode) (c : ModeCause) (hm : m ≠ .running) (hu : u.mode = .stopping) :
    Kept s (enterMode m c u) :=
  h.trans ⟨rfl, rfl, rfl, rfl, rfl, rfl, rfl, ⟨[_], rfl⟩, fun _ => .inl hm, fun _ => .inl (by simp [hu]),
    fun d => absurd hu d, fun _ _ h => h⟩

/-- A fold of an operation that keeps, keeps. -/
@[simp] theorem foldl {α : Type} {f : State → α → State} (hf : ∀ v a, Kept v (f v a)) (l : List α) (h : Kept s u) :
    Kept s (l.foldl f u) := by
  induction l generalizing u with
  | nil => exact h
  | cons a l ih => exact ih (h.trans (hf u a))

theorem ite {p : Prop} [Decidable p] {a b : State} (ha : Kept s a) (hb : Kept s b) : Kept s (if p then a else b) := by
  split <;> assumption

end Kept

/-- Outside STOPPING an event leaves LTS's record as it is. -/
theorem Kept.lts_same {s t : State} (h : Kept s t) (hm : s.mode ≠ .stopping) : t.lts = s.lts := by
  have k := h.lts
  have m : t.lts.mode = s.lts.mode := h.mode hm
  rw [m] at k
  exact k

/-! ## HL's bounds -/

theorem Hl.Good.enqueue {h : Hl} (g : h.Good) (e : EventRec) : (h.enqueue e).Good := by
  obtain ⟨g1, g2, g3⟩ := g
  unfold Hl.enqueue Hl.reportLoss Hl.join Hl.discard eventCapacity at *
  split
  · split
    · split <;> simp_all [Hl.Good, eventCapacity] <;> omega
    · split <;> simp_all [Hl.Good, eventCapacity] <;> omega
  · exact ⟨g1, g2, g3⟩

theorem Hl.Good.raised {h : Hl} (g : h.Good) (l : List EventRec) : (h.raised l).Good := by
  induction l generalizing h with
  | nil => exact g
  | cons e l ih => exact ih (g.enqueue e)

/-- Raising events changes the queue and the count of lost records alone. -/
theorem Hl.raised_others (h : Hl) (l : List EventRec) :
    h.raised l = { h with queue := (h.raised l).queue, dropped := (h.raised l).dropped } := by
  induction l generalizing h with
  | nil => rfl
  | cons e l ih =>
    have step : h.enqueue e = { h with queue := (h.enqueue e).queue, dropped := (h.enqueue e).dropped } := by
      unfold Hl.enqueue Hl.reportLoss Hl.join Hl.discard
      (repeat' split) <;> rfl
    show (h.enqueue e).raised l = _
    rw [ih (h.enqueue e)]
    show _ = { h with queue := ((h.enqueue e).raised l).queue, dropped := ((h.enqueue e).raised l).dropped }
    rw [step]

/-- What is kept keeps HL's record good. -/
theorem Kept.good {s t : State} (h : Kept s t) (g : s.LinkGood) : t.LinkGood := by
  obtain ⟨l, hl⟩ := h.hl
  unfold State.LinkGood
  rw [hl]
  exact Hl.Good.raised g l

end Sys2Proof.Machine
end

