-- ==== Sys2Proof/Laws/KeptRail.lean ====
section
/-! SUPPORT. The operations of SAU, PTS, TTC and RIE keep what `Kept` names. -/

namespace Sys2Proof.Machine.Kept

variable {s u : State}

/-! ## SAU -/

@[simp] theorem markCleared (h : Kept s u) (x : Nat) : Kept s (markCleared x u) := by
  unfold Machine.markCleared
  dsimp only
  split <;> simp (maxDischargeDepth := 12) [h]

/-- R91: where every signal is to stand at DANGER, and for a signal that is not present, DANGER is derived. -/
theorem aspectOf_danger (u : State) (x : Nat) (h : u.AllStop ∨ u.signalRec x = none) : u.aspectOf x = .danger := by
  unfold State.aspectOf
  dsimp only
  split
  · rename_i hr
    rcases h with (h | h) | h
    · simp [State.mayClear, h]
    · simp [State.mayClear, h]
    · simp [h] at hr
  · rfl

/-- A signal's record may change to what R91 to R94 derive. -/
theorem setSignal (h : Kept s u) (x : Nat) (w : SignalWork)
    (hw : u.AllStop ∨ u.signalRec x = none → w.commanded = .danger) : Kept s (u.setSignal x w) := by
  refine h.trans ⟨rfl, rfl, rfl, rfl, rfl, rfl, rfl, ⟨[], rfl⟩, id, id, fun _ => rfl, fun y d e => ?_⟩
  by_cases hy : y = x
  · subst hy
    rw [State.signal_setSignal]
    exact hw d
  · rw [State.signal_setSignal_other _ _ hy]
    exact e

theorem proved_commanded (w : SignalWork) (p : Proving) : (w.proved p).commanded = w.commanded := by
  cases p <;> rfl

@[simp] theorem deriveOne (h : Kept s u) (quiet : Bool) (x : Nat) : Kept s (deriveOne quiet x u) := by
  unfold Machine.deriveOne
  dsimp only
  have h1 : ∀ p : Prop, [Decidable p] → ∀ pr, Kept s (if p then u.setProving x pr else u) := fun p _ pr => by
    split <;> simp [h]
  have h2 : ∀ (p q : Prop) [Decidable p] [Decidable q] (pr pv : Proving),
      Kept s (if p then (if q then u.setProving x pr else u)
        else (if q then u.setProving x pr else u).setSignal x
          (({ u.signal x with commanded := u.aspectOf x } : SignalWork).proved pv)) := fun p q _ _ pr pv => by
    split
    · exact h1 q pr
    · refine (h1 q pr).setSignal _ _ fun d => ?_
      rw [proved_commanded]
      exact aspectOf_danger u x (by split at d <;> exact d)
  have h3 := fun p q [Decidable p] [Decidable q] (pr pv : Proving) => (h2 p q pr pv).markCleared x
  split
  · split
    · exact h3 _ _ _ _
    · exact h2 _ _ _ _
  · split
    · exact (h3 _ _ _ _).raise _
    · exact (h2 _ _ _ _).raise _

theorem deriveSignal_refl (quiet : Bool) (n x : Nat) (v : State) : Kept v (deriveSignal quiet n x v) := by
  induction n generalizing x v with
  | zero => exact Kept.refl v
  | succ n ih =>
    unfold Machine.deriveSignal
    dsimp only
    split
    · simp
    · exact Kept.foldl (fun w y => ih y w) _ (by simp)

@[simp] theorem deriveSignal (h : Kept s u) (quiet : Bool) (n x : Nat) : Kept s (deriveSignal quiet n x u) :=
  h.trans (deriveSignal_refl _ _ _ _)

@[simp] theorem deriveList (h : Kept s u) (quiet : Bool) (l : List Nat) : Kept s (deriveList quiet l u) :=
  Kept.foldl (by simp) _ h

@[simp] theorem deriveAll (h : Kept s u) (quiet : Bool) : Kept s (deriveAll quiet u) := h.deriveList _ _

@[simp] theorem takeProving (h : Kept s u) (x : Nat) (p : Proving) : Kept s (takeProving x p u) := by
  simp (maxDischargeDepth := 12) [Machine.takeProving, h, -List.foldl_reverse]

/-! ## PTS: placing and withdrawing -/

@[simp] theorem takeOrder (h : Kept s u) (n p : Nat) : Kept s (takeOrder n p u) := by
  unfold Machine.takeOrder
  split <;> simp (maxDischargeDepth := 12) [h]

@[simp] theorem lookFrom (h : Kept s u) (k : Nat) : Kept s (lookFrom k u) := by
  induction k generalizing u with
  | zero => exact h
  | succ k ih =>
    unfold Machine.lookFrom
    split
    · exact ih (by simp (maxDischargeDepth := 12) [h])
    · exact h

@[simp] theorem look (h : Kept s u) : Kept s (look u) := h.lookFrom 4

@[simp] theorem placeOrder (h : Kept s u) (p : Nat) (lie : Lie) (c : ThrowCause) (q : Option Requester) :
    Kept s (placeOrder p lie c q u).1 := by
  unfold Machine.placeOrder
  dsimp only
  (repeat' split) <;> simp (maxDischargeDepth := 12) [h]

@[simp] theorem withdrawClaim (h : Kept s u) (p n : Nat) : Kept s (withdrawClaim p n u).1 := by
  unfold Machine.withdrawClaim
  dsimp only
  (repeat' split) <;> simp (maxDischargeDepth := 12) [h]

@[simp] theorem settleSlots (h : Kept s u) (p : Nat) (w : Slot) : Kept s (settleSlots p w u) := by
  simp (maxDischargeDepth := 12) [Machine.settleSlots, h, -List.foldl_reverse]

/-! ## TTC -/

@[simp] theorem endMove (h : Kept s u) : Kept s (endMove u) := by
  unfold Machine.endMove
  dsimp only
  (repeat' split) <;> simp (maxDischargeDepth := 12) [h]

@[simp] theorem handTtc (h : Kept s u) (changed : Bool) (new : Ttc) : Kept s (handTtc changed new u) := by
  unfold Machine.handTtc
  dsimp only
  (repeat' split) <;> simp (maxDischargeDepth := 12) [h]

@[simp] theorem commitTtc (h : Kept s u) (new : Ttc) : Kept s (commitTtc new u) := h.handTtc _ _

@[simp] theorem commitMove (h : Kept s u) (new : Ttc) : Kept s (commitMove new u) := h.handTtc _ _

@[simp] theorem actTtc (h : Kept s u) (f : Ttc → Tables → TurntableRec → Nat → Ttc) : Kept s (actTtc f u) := by
  unfold Machine.actTtc
  split <;> simp (maxDischargeDepth := 12) [h]

@[simp] theorem orderMove (h : Kept s u) (q : Nat) (o : Origin) (n road : Nat) (e : DeckEndAsked) :
    Kept s (orderMove q o n road e u).1 := by
  unfold Machine.orderMove
  (repeat' split) <;> simp (maxDischargeDepth := 12) [h]

@[simp] theorem requestMove (h : Kept s u) (o : Origin) (road : Nat) (e : Option DeckEndAsked) :
    Kept s (requestMove o road e u).1 := by
  unfold Machine.requestMove
  split <;> simp (maxDischargeDepth := 12) [h]

@[simp] theorem requestHome (h : Kept s u) (o : Origin) : Kept s (requestHome o u).1 := by
  unfold Machine.requestHome
  (repeat' split) <;> simp (maxDischargeDepth := 12) [h]

@[simp] theorem requestStop (h : Kept s u) (o : Origin) : Kept s (requestStop o u).1 := by
  unfold Machine.requestStop
  split <;> simp (maxDischargeDepth := 12) [h]

@[simp] theorem requestHalt (h : Kept s u) (o : Origin) : Kept s (requestHalt o u).1 := by
  unfold Machine.requestHalt
  split <;> simp (maxDischargeDepth := 12) [h]

@[simp] theorem haltTable (h : Kept s u) : Kept s (haltTable u) := h.actTtc _

@[simp] theorem setDeckOwner (h : Kept s u) (q : Nat) : Kept s (setDeckOwner q u) := by
  unfold Machine.setDeckOwner
  dsimp only
  split <;> simp (maxDischargeDepth := 12) [h]

/-! ## RIE: changes of state and giving back -/

@[simp] theorem changeRoute (h : Kept s u) (q : Nat) (w : RouteWork) (c : RouteCause) : Kept s (changeRoute q w c u) := by
  unfold Machine.changeRoute
  dsimp only
  split <;> simp (maxDischargeDepth := 12) [h]

@[simp] theorem dropHolder (h : Kept s u) (q p : Nat) : Kept s (dropHolder q p u) := by
  simp (maxDischargeDepth := 12) [Machine.dropHolder, h, -List.foldl_reverse]

@[simp] theorem dropHolders (h : Kept s u) (q n : Nat) : Kept s (dropHolders q n u) := by
  unfold Machine.dropHolders
  split <;> simp (maxDischargeDepth := 12) [h]

@[simp] theorem freeDeck (h : Kept s u) (q : Nat) : Kept s (freeDeck q u) := by
  unfold Machine.freeDeck
  split <;> simp (maxDischargeDepth := 12) [h]

@[simp] theorem giveBackPath (h : Kept s u) (q k : Nat) : Kept s (giveBackPath q k u) := by
  unfold Machine.giveBackPath
  dsimp only
  (repeat' split) <;> simp (maxDischargeDepth := 12) [h]

@[simp] theorem giveBackOne (h : Kept s u) (q t : Nat) : Kept s (giveBackOne q t u) := by
  unfold Machine.giveBackOne
  split <;> simp (maxDischargeDepth := 12) [h]

@[simp] theorem giveBackOverlap (h : Kept s u) (q : Nat) : Kept s (giveBackOverlap q u) := by
  unfold Machine.giveBackOverlap
  split <;> simp (maxDischargeDepth := 12) [h]

@[simp] theorem endRoute (h : Kept s u) (q : Nat) (c : RouteCause) : Kept s (endRoute q c u) := by
  unfold Machine.endRoute
  dsimp only
  (repeat' split) <;> simp (maxDischargeDepth := 12) [h]

@[simp] theorem giveBackWhole (h : Kept s u) (q : Nat) (c : RouteCause) : Kept s (giveBackWhole q c u) := by
  unfold Machine.giveBackWhole
  dsimp only
  split <;> simp (maxDischargeDepth := 12) [h]

@[simp] theorem endIfEmpty (h : Kept s u) (q : Nat) (c : RouteCause) : Kept s (endIfEmpty q c u) := by
  unfold Machine.endIfEmpty
  split <;> simp (maxDischargeDepth := 12) [h]

/-! ## RIE: contexts -/

@[simp] theorem closeContext (h : Kept s u) (n : Nat) : Kept s (closeContext n u) := by
  simp (maxDischargeDepth := 12) [Machine.closeContext, h, -List.foldl_reverse]

@[simp] theorem setEntry (h : Kept s u) (n i : Nat) (e : JournalEntry) : Kept s (setEntry n i e u) := by
  simp (maxDischargeDepth := 12) [Machine.setEntry, h, -List.foldl_reverse]

@[simp] theorem rewriteHolder (h : Kept s u) (q p : Nat) (lie : Lie) : Kept s (rewriteHolder q p lie u) := by
  simp (maxDischargeDepth := 12) [Machine.rewriteHolder, h, -List.foldl_reverse]

@[simp] theorem restoreEntry (h : Kept s u) (n q i : Nat) : Kept s (restoreEntry n q i u) := by
  unfold Machine.restoreEntry
  dsimp only
  (repeat' split) <;> simp (maxDischargeDepth := 12) [h]

@[simp] theorem finishUnwinding (h : Kept s u) (n : Nat) : Kept s (finishUnwinding n u) := by
  unfold Machine.finishUnwinding
  dsimp only
  split <;> simp (maxDischargeDepth := 12) [h]

@[simp] theorem unwind (h : Kept s u) (n : Nat) : Kept s (unwind n u) := by
  simp (maxDischargeDepth := 12) [Machine.unwind, h, -List.foldl_reverse]

@[simp] theorem finishDraining (h : Kept s u) (n : Nat) : Kept s (finishDraining n u) := by
  unfold Machine.finishDraining
  dsimp only
  split <;> simp (maxDischargeDepth := 12) [h]

@[simp] theorem withdrawEntry (h : Kept s u) (n i : Nat) : Kept s (withdrawEntry n i u) := by
  unfold Machine.withdrawEntry
  dsimp only
  (repeat' split) <;> simp (maxDischargeDepth := 12) [h]

@[simp] theorem beginRestoring (h : Kept s u) (n : Nat) (c : RouteCause) : Kept s (beginRestoring n c u) := by
  simp (maxDischargeDepth := 12) [Machine.beginRestoring, h, -List.foldl_reverse]

@[simp] theorem completeSetting (h : Kept s u) (n : Nat) (c : RouteCause) : Kept s (completeSetting n c u) := by
  simp (maxDischargeDepth := 12) [Machine.completeSetting, h, -List.foldl_reverse]

@[simp] theorem afterReport (h : Kept s u) (n : Nat) (f : Option RouteCause) : Kept s (afterReport n f u) := by
  unfold Machine.afterReport
  (repeat' split) <;> simp (maxDischargeDepth := 12) [h]

@[simp] theorem reportTo (h : Kept s u) (n : Nat) (f : JournalEntry → Bool) (o : JournalOutcome)
    (c : Option RouteCause) : Kept s (reportTo n f o c u) := by
  unfold Machine.reportTo
  (repeat' split) <;> simp (maxDischargeDepth := 12) [h]

@[simp] theorem reportThrow (h : Kept s u) (n p : Nat) (r : ThrowReport) : Kept s (reportThrow n p r u) := by
  unfold Machine.reportThrow
  split <;> simp (maxDischargeDepth := 12) [h]

@[simp] theorem reportMove (h : Kept s u) (n : Nat) (r : MoveEnd) : Kept s (reportMove n r u) := by
  unfold Machine.reportMove
  split <;> simp (maxDischargeDepth := 12) [h]

/-! ## RIE: admission and the held-request queue -/

@[simp] theorem addHolder (h : Kept s u) (q p : Nat) (lie : Lie) : Kept s (addHolder q p lie u) := by
  unfold Machine.addHolder
  split <;> simp (maxDischargeDepth := 12) [h]

@[simp] theorem takeLocks (h : Kept s u) (q n : Nat) (r : RouteRec) (o : Origin) (fleet : Bool) :
    Kept s (takeLocks q n r o fleet u) := by
  unfold Machine.takeLocks
  dsimp only
  split <;> simp (maxDischargeDepth := 12) [h]

@[simp] theorem journal (h : Kept s u) (n : Nat) (e : JournalEntry) : Kept s (journal n e u) := by
  simp (maxDischargeDepth := 12) [Machine.journal, h, -List.foldl_reverse]

theorem orderThrow (h : Kept s u) (n : Nat) (b : Bool) (x : Requirement) : Kept s (orderThrow n (u, b) x).1 := by
  unfold Machine.orderThrow
  dsimp only
  (repeat' split) <;> simp (maxDischargeDepth := 12) [h]

theorem orderThrows (n : Nat) (l : List Requirement) (v : State) (b : Bool) :
    Kept v (l.foldl (Machine.orderThrow n) (v, b)).1 := by
  induction l generalizing v b with
  | nil => exact Kept.refl v
  | cons x l ih =>
    have h := Kept.orderThrow (Kept.refl v) n b x
    exact h.trans (ih _ _)

@[simp] theorem orderDeck (h : Kept s u) (q n : Nat) (r : RouteRec) (o : Origin) : Kept s (orderDeck q n r o u).1 := by
  unfold Machine.orderDeck
  dsimp only
  (repeat' split) <;> simp (maxDischargeDepth := 12) [h]

@[simp] theorem admitRoute (h : Kept s u) (q : Nat) (o : Origin) (fleet : Bool) : Kept s (admitRoute q o fleet u) := by
  unfold Machine.admitRoute
  split
  · rename_i r n _ _
    have k : Kept s (r.reqs.foldl (Machine.orderThrow n) (Machine.takeLocks q n r o fleet u, false)).1 :=
      (h.takeLocks q n r o fleet).trans (orderThrows _ _ _ _)
    dsimp only
    (repeat' split) <;> simp (maxDischargeDepth := 12) [k]
  · exact h

@[simp] theorem leaveQueue (h : Kept s u) (q : Nat) : Kept s (leaveQueue q u) := by
  simp (maxDischargeDepth := 12) [Machine.leaveQueue, h, -List.foldl_reverse]

@[simp] theorem dropHeld (h : Kept s u) (q : Nat) (c : RouteCause) : Kept s (dropHeld q c u) := by
  simp (maxDischargeDepth := 12) [Machine.dropHeld, h, -List.foldl_reverse]

@[simp] theorem rescanEntry (h : Kept s u) (q : Nat) : Kept s (rescanEntry u q) := by
  unfold Machine.rescanEntry
  dsimp only
  (repeat' split) <;> simp (maxDischargeDepth := 12) [h]

@[simp] theorem rescan (h : Kept s u) : Kept s (rescan u) := by
  unfold Machine.rescan
  split <;> simp (maxDischargeDepth := 12) [h]

@[simp] theorem holdRequest (h : Kept s u) (q : Nat) (o : Origin) (fleet : Bool) (n : Nat) (c : ConflictReason) :
    Kept s (holdRequest q o fleet n c u) := by
  simp (maxDischargeDepth := 12) [Machine.holdRequest, h, -List.foldl_reverse]

@[simp] theorem requestRoute (h : Kept s u) (q : Nat) (o : Origin) (wait fleet : Bool) (n : Nat) :
    Kept s (requestRoute q o wait fleet n u).1 := by
  unfold Machine.requestRoute
  dsimp only
  (repeat' split) <;> simp (maxDischargeDepth := 12) [h]

/-! ## RIE: release, cancelling and mode changes -/

theorem examineFrom_refl (q n k : Nat) (v : State) : Kept v (examineFrom q n k v) := by
  induction n generalizing k v with
  | zero => exact Kept.refl v
  | succ n ih =>
    unfold Machine.examineFrom
    dsimp only
    (repeat' split)
    · simp (maxDischargeDepth := 12)
    · simp (maxDischargeDepth := 12)
    · exact (Kept.giveBackPath (Kept.refl v) q k).trans (ih _ _)
    · simp

@[simp] theorem examineRelease (h : Kept s u) (q : Nat) : Kept s (examineRelease q u) := by
  unfold Machine.examineRelease
  split
  · exact h.trans (examineFrom_refl _ _ _ _)
  · exact h

@[simp] theorem startOverlapTimer (h : Kept s u) (q : Nat) : Kept s (startOverlapTimer q u) := by
  unfold Machine.startOverlapTimer
  (repeat' split) <;> simp (maxDischargeDepth := 12) [h]

@[simp] theorem startIfLastOccupied (h : Kept s u) (q : Nat) : Kept s (startIfLastOccupied q u) := by
  unfold Machine.startIfLastOccupied
  split <;> simp (maxDischargeDepth := 12) [h]

@[simp] theorem enterInUse (h : Kept s u) (q : Nat) (l : List Nat) (c : RouteCause) : Kept s (enterInUse q l c u) := by
  simp (maxDischargeDepth := 12) [Machine.enterInUse, h, -List.foldl_reverse]

@[simp] theorem clearMarked (h : Kept s u) (q k t : Nat) : Kept s (clearMarked q k t u) := by
  unfold Machine.clearMarked
  dsimp only
  (repeat' split) <;> simp (maxDischargeDepth := 12) [h]

@[simp] theorem testSpad (h : Kept s u) (q t : Nat) (old : Occupancy) (f : Nat → Aspect) :
    Kept s (testSpad q t old f u) := by
  unfold Machine.testSpad
  (repeat' split) <;> simp (maxDischargeDepth := 12) [h]

@[simp] theorem fleetPassed (h : Kept s u) (q k : Nat) (new : Occupancy) : Kept s (fleetPassed q k new u) := by
  unfold Machine.fleetPassed
  dsimp only
  (repeat' split) <;> simp (maxDischargeDepth := 12) [h]

@[simp] theorem inUsePassed (h : Kept s u) (q k : Nat) (new : Occupancy) : Kept s (inUsePassed q k new u) := by
  unfold Machine.inUsePassed
  dsimp only
  (repeat' split) <;> simp (maxDischargeDepth := 12) [h]

@[simp] theorem routeOccupancy (h : Kept s u) (f : Nat → Aspect) (t : Nat) (old new : Occupancy) :
    Kept s (routeOccupancy f t old new u) := by
  unfold Machine.routeOccupancy
  dsimp only
  (repeat' split) <;> simp (maxDischargeDepth := 12) [h]

@[simp] theorem cancelLocked (h : Kept s u) (q : Nat) (r : RouteRec) : Kept s (cancelLocked q r u).1 := by
  unfold Machine.cancelLocked
  dsimp only
  split <;> simp (maxDischargeDepth := 12) [h]

@[simp] theorem cancelFleet (h : Kept s u) (q : Nat) (r : RouteRec) : Kept s (cancelFleet q r u).1 := by
  unfold Machine.cancelFleet
  dsimp only
  split <;> simp (maxDischargeDepth := 12) [h]

@[simp] theorem requestCancel (h : Kept s u) (q : Nat) (o : Origin) : Kept s (requestCancel q o u).1 := by
  unfold Machine.requestCancel
  dsimp only
  (repeat' split) <;> simp (maxDischargeDepth := 12) [h]

@[simp] theorem forcePath (h : Kept s u) (q k : Nat) : Kept s (forcePath q k u) := by
  unfold Machine.forcePath
  (repeat' split) <;> simp (maxDischargeDepth := 12) [h]

@[simp] theorem forceOverlap (h : Kept s u) (q t : Nat) : Kept s (forceOverlap q t u) := by
  unfold Machine.forceOverlap
  split <;> simp (maxDischargeDepth := 12) [h]

@[simp] theorem forceRoute (h : Kept s u) (q : Nat) : Kept s (forceRoute q u) := by
  unfold Machine.forceRoute
  dsimp only
  split <;> simp (maxDischargeDepth := 12) [h]

@[simp] theorem requestForce (h : Kept s u) (q : Nat) (o : Origin) : Kept s (requestForce q o u).1 := by
  unfold Machine.requestForce
  dsimp only
  (repeat' split) <;> simp (maxDischargeDepth := 12) [h]

@[simp] theorem expireHeld (h : Kept s u) (q : Nat) : Kept s (expireHeld q u) := by simp (maxDischargeDepth := 12) [Machine.expireHeld, h, -List.foldl_reverse]

@[simp] theorem expireApproach (h : Kept s u) (q : Nat) : Kept s (expireApproach q u) := by
  simp (maxDischargeDepth := 12) [Machine.expireApproach, h, -List.foldl_reverse]

@[simp] theorem expireOverlap (h : Kept s u) (q : Nat) : Kept s (expireOverlap q u) := by
  simp (maxDischargeDepth := 12) [Machine.expireOverlap, h, -List.foldl_reverse]

@[simp] theorem freezeRoutes (h : Kept s u) : Kept s (freezeRoutes u) := h.side _ rfl rfl rfl rfl rfl rfl rfl rfl rfl

@[simp] theorem dropAllHeld (h : Kept s u) : Kept s (dropAllHeld u) := by simp (maxDischargeDepth := 12) [Machine.dropAllHeld, h, -List.foldl_reverse]

@[simp] theorem clearRoutes (h : Kept s u) : Kept s (clearRoutes u) := h.side _ rfl rfl rfl rfl rfl rfl rfl rfl rfl

/-! ## PTS: how an order ends -/

@[simp] theorem tellContexts (h : Kept s u) (p : Nat) (r : ThrowReport) (l : List Requester) :
    Kept s (tellContexts p r l u) := by
  unfold Machine.tellContexts
  refine Kept.foldl (fun v q => ?_) _ h
  split <;> simp

@[simp] theorem stopMotor (h : Kept s u) (p : Nat) : Kept s (stopMotor p u) := by simp (maxDischargeDepth := 12) [Machine.stopMotor, h, -List.foldl_reverse]

@[simp] theorem completeOrder (h : Kept s u) (p : Nat) : Kept s (completeOrder p u) := by
  unfold Machine.completeOrder
  dsimp only
  (repeat' split) <;> simp (maxDischargeDepth := 12) [h]

@[simp] theorem failDrive (h : Kept s u) (p : Nat) (r : PointRec) (ph : Phase) (c : ThrowFailure) :
    Kept s (failDrive p r ph c u) := by
  unfold Machine.failDrive
  (repeat' split) <;> simp (maxDischargeDepth := 12) [h]

@[simp] theorem endFailed (h : Kept s u) (p : Nat) (c : ThrowFailure) : Kept s (endFailed p c u) := by
  unfold Machine.endFailed
  split <;> simp (maxDischargeDepth := 12) [h]

@[simp] theorem failOrder (h : Kept s u) (p : Nat) (c : ThrowFailure) : Kept s (failOrder p c u) :=
  (h.endFailed _ _).tellContexts _ _ _

@[simp] theorem acknowledge (h : Kept s u) (p n : Nat) : Kept s (acknowledge p n u) := by
  unfold Machine.acknowledge
  dsimp only
  (repeat' split) <;> simp (maxDischargeDepth := 12) [h]

@[simp] theorem unwantedMovement (h : Kept s u) (p : Nat) (old new : Detected) : Kept s (unwantedMovement p old new u) := by
  unfold Machine.unwantedMovement
  dsimp only
  (repeat' split) <;> simp (maxDischargeDepth := 12) [h]

@[simp] theorem pointMoved (h : Kept s u) (p : Nat) (old new : Detected) : Kept s (pointMoved p old new u) := by
  unfold Machine.pointMoved
  dsimp only
  (repeat' split) <;> simp (maxDischargeDepth := 12) [h]

@[simp] theorem loseNode (h : Kept s u) (a : Nat) : Kept s (loseNode a u) :=
  Kept.foldl (by simp) _ (Kept.foldl (by simp) _ h)

@[simp] theorem requestThrow (h : Kept s u) (p : Nat) (l : Option Lie) (o : Origin) : Kept s (requestThrow p l o u).1 := by
  unfold Machine.requestThrow
  (repeat' split) <;> simp (maxDischargeDepth := 12) [h]

@[simp] theorem abandonOrder (h : Kept s u) (p : Nat) : Kept s (abandonOrder u p) := by
  unfold Machine.abandonOrder
  dsimp only
  (repeat' split) <;> simp (maxDischargeDepth := 12) [h]

@[simp] theorem abandonThrows (h : Kept s u) : Kept s (abandonThrows u) := by simp (maxDischargeDepth := 12) [Machine.abandonThrows, h, -List.foldl_reverse]

end Sys2Proof.Machine.Kept
end

