-- ==== Sys2Proof/Laws/KeptEvents.lean ====
section
/-! SUPPORT. The operations of TD, VPC, FLC and LTS, and an event run to its end, keep what `Kept` names. -/

namespace Sys2Proof.Machine.Kept

variable {s u : State}

/-! ## TD -/

@[simp] theorem computeBerths (h : Kept s u) : Kept s (computeBerths u) := h.side _ rfl rfl rfl rfl rfl rfl rfl rfl rfl

@[simp] theorem headChanged (h : Kept s u) (n t : Nat) : Kept s (headChanged n t u) := by
  simp (maxDischargeDepth := 12) [Machine.headChanged, h]

@[simp] theorem setTrain (h : Kept s u) (n : Nat) (w : TrainWork) : Kept s (setTrain n w u) := h.setTrains _

@[simp] theorem stepTrain (h : Kept s u) (n t tier : Nat) : Kept s (stepTrain n t tier u) := by
  unfold Machine.stepTrain
  dsimp only
  (repeat' split) <;> simp (maxDischargeDepth := 12) [h]

@[simp] theorem stepInto (h : Kept s u) (t : Nat) : Kept s (stepInto t u) := by
  unfold Machine.stepInto
  dsimp only
  (repeat' split) <;> simp (maxDischargeDepth := 12) [h]

@[simp] theorem trackOccupied (h : Kept s u) (t : Nat) (old : Occupancy) : Kept s (trackOccupied t old u) := by
  unfold Machine.trackOccupied
  split <;> simp (maxDischargeDepth := 12) [h]

@[simp] theorem trackCleared (h : Kept s u) (t : Nat) : Kept s (trackCleared t u) := by
  unfold Machine.trackCleared
  dsimp only
  (repeat' split) <;> simp (maxDischargeDepth := 12) [h]

@[simp] theorem trainOccupancies (h : Kept s u) (l : List (Nat × Occupancy × Occupancy)) :
    Kept s (trainOccupancies l u) := by
  unfold Machine.trainOccupancies
  exact Kept.foldl (by simp) _ (Kept.foldl (by simp) _ h)

@[simp] theorem interpose (h : Kept s u) (n : Nat) (i : Interpose) : Kept s (interpose n i u) := by
  simp (maxDischargeDepth := 12) [Machine.interpose, h]

@[simp] theorem removeTrain (h : Kept s u) (n : Nat) : Kept s (removeTrain n u) := by
  unfold Machine.removeTrain
  dsimp only
  split <;> simp (maxDischargeDepth := 12) [h]

/-! ## VPC -/

@[simp] theorem refreshLamps (h : Kept s u) : Kept s (refreshLamps u) := h.setVpc _

@[simp] theorem press (h : Kept s u) (b : Nat) : Kept s (press b u) := by
  unfold Machine.press
  dsimp only
  (repeat' split) <;> simp (maxDischargeDepth := 12) [h]

@[simp] theorem startExam (h : Kept s u) : Kept s (startExam u) := by
  unfold Machine.startExam
  dsimp only
  (repeat' split) <;> simp (maxDischargeDepth := 12) [h]

@[simp] theorem dropQueue (h : Kept s u) (c : AbortCause) : Kept s (dropQueue c u) := by
  unfold Machine.dropQueue
  exact Kept.foldl (by simp) _ (h.setVpc _)

@[simp] theorem endRunner (h : Kept s u) : Kept s (endRunner u) := h.setVpc _

@[simp] theorem completeScript (h : Kept s u) : Kept s (completeScript u) := by
  simp (maxDischargeDepth := 12) [Machine.completeScript, h]

@[simp] theorem cancelOwned (h : Kept s u) (q : Nat) : Kept s (cancelOwned u q) := by
  unfold Machine.cancelOwned
  split <;> simp (maxDischargeDepth := 12) [h]

@[simp] theorem abortScript (h : Kept s u) (c : AbortCause) (f : StepFailure) : Kept s (abortScript c f u) := by
  unfold Machine.abortScript
  dsimp only
  (repeat' split) <;> simp (maxDischargeDepth := 12) [h]

@[simp] theorem stepDone (h : Kept s u) (n : Nat) : Kept s (stepDone n u) := by
  unfold Machine.stepDone
  dsimp only
  split <;> simp (maxDischargeDepth := 12) [h]

@[simp] theorem stepFails (h : Kept s u) (f : StepFailure) : Kept s (stepFails f u) := by
  simp (maxDischargeDepth := 12) [Machine.stepFails, h]

@[simp] theorem awaitWith (h : Kept s u) (a : Awaiting) (d : Nat) : Kept s (awaitWith a d u) := h.setRunner _

@[simp] theorem own (h : Kept s u) (q : Nat) : Kept s (own q u) := by
  simp (maxDischargeDepth := 12) [Machine.own, h]

@[simp] theorem beginSetRoute (h : Kept s u) (q : Nat) : Kept s (beginSetRoute q u) := by
  unfold Machine.beginSetRoute
  dsimp only
  (repeat' split) <;> simp (maxDischargeDepth := 12) [h]

@[simp] theorem judgeTurn (h : Kept s u) (r : Nat) (e : DeckEndAsked) : Kept s (judgeTurn r e u) := by
  unfold Machine.judgeTurn
  (repeat' split) <;> simp (maxDischargeDepth := 12) [h]

@[simp] theorem beginTurn (h : Kept s u) (r : Nat) (e : DeckEndAsked) : Kept s (beginTurn r e u) := by
  unfold Machine.beginTurn
  dsimp only
  (repeat' split) <;> simp (maxDischargeDepth := 12) [h]

@[simp] theorem arrived (h : Kept s u) (n : Nat) (w : TrainWork) : Kept s (arrived n w u) := by
  simp (maxDischargeDepth := 12) [Machine.arrived, h]

@[simp] theorem beginArrival (h : Kept s u) (t d : Nat) : Kept s (beginArrival t d u) := by
  unfold Machine.beginArrival
  (repeat' split) <;> simp (maxDischargeDepth := 12) [h]

@[simp] theorem beginStep (h : Kept s u) : Kept s (beginStep u) := by
  unfold Machine.beginStep
  (repeat' split) <;> simp (maxDischargeDepth := 12) [h]

@[simp] theorem routeNews (h : Kept s u) (q : Nat) (st : RouteState) (c : RouteCause) : Kept s (routeNews q st c u) := by
  unfold Machine.routeNews
  dsimp only
  (repeat' split) <;> simp (maxDischargeDepth := 12) [h]

@[simp] theorem tableNews (h : Kept s u) : Kept s (tableNews u) := by
  unfold Machine.tableNews
  split <;> simp (maxDischargeDepth := 12) [h]

@[simp] theorem headNews (h : Kept s u) (n t : Nat) : Kept s (headNews n t u) := by
  unfold Machine.headNews
  (repeat' split) <;> simp (maxDischargeDepth := 12) [h]

@[simp] theorem trackNews (h : Kept s u) (t : Nat) (o : Occupancy) : Kept s (trackNews t o u) := by
  unfold Machine.trackNews
  (repeat' split) <;> simp (maxDischargeDepth := 12) [h]

@[simp] theorem judgeScript (h : Kept s u) : Kept s (judgeScript u) := by
  unfold Machine.judgeScript
  dsimp only
  split <;> simp (maxDischargeDepth := 12) [h]

@[simp] theorem stepTimeUp (h : Kept s u) : Kept s (stepTimeUp u) := by
  unfold Machine.stepTimeUp
  split <;> simp (maxDischargeDepth := 12) [h]

@[simp] theorem setEnable (h : Kept s u) (on : Bool) : Kept s (setEnable on u) := by
  unfold Machine.setEnable
  dsimp only
  (repeat' split) <;> simp (maxDischargeDepth := 12) [h]

@[simp] theorem closeVisitors (h : Kept s u) (c : AbortCause) : Kept s (closeVisitors c u) := by
  simp (maxDischargeDepth := 12) [Machine.closeVisitors, h]

@[simp] theorem restartVisitors (h : Kept s u) : Kept s (restartVisitors u) := h.setVpc _

@[simp] theorem stopVisitors (h : Kept s u) : Kept s (stopVisitors u) := h.setVpc _

/-! ## FLC -/

@[simp] theorem openExchange (h : Kept s u) : Kept s (openExchange u) := by
  unfold Machine.openExchange
  (repeat' split)
  · exact h.side _ rfl rfl rfl rfl rfl rfl rfl rfl rfl
  · exact h
  · exact h

@[simp] theorem handOccupancies (h : Kept s u) (l : List (Nat × Occupancy × Occupancy)) (f : Nat → Aspect) :
    Kept s (handOccupancies l f u) := by
  unfold Machine.handOccupancies
  exact Kept.foldl (by simp) _ ((Kept.foldl (by simp) _ h).deriveAll _ |>.trainOccupancies _)

@[simp] theorem handDetections (h : Kept s u) (l : List (Nat × Detected × Detected)) : Kept s (handDetections l u) :=
  Kept.foldl (by simp) _ h

@[simp] theorem setNodeState (h : Kept s u) (a : Nat) (w : NodeWork) : Kept s (setNodeState a w u) := by
  unfold Machine.setNodeState
  dsimp only
  split <;> simp (maxDischargeDepth := 12) [h]

@[simp] theorem takeStatus (h : Kept s u) (a : Nat) (low fault : Bool) : Kept s (takeStatus a low fault u) := by
  unfold Machine.takeStatus
  dsimp only
  split <;> simp (maxDischargeDepth := 12) [h]

@[simp] theorem setReads (h : Kept s u) (l : List (Nat × TrackRead)) : Kept s (setReads l u).1 := by
  unfold Machine.setReads
  exact Kept.foldl (by simp) _ (Kept.foldl (by simp) _ h)

@[simp] theorem setContacts (h : Kept s u) (l : List (Nat × PointRead)) : Kept s (setContacts l u).1 := by
  unfold Machine.setContacts
  exact Kept.foldl (by simp) _ (Kept.foldl (by simp) _ h)

@[simp] theorem readDetectors (h : Kept s u) (a : Nat) (r : List Bool) : Kept s (readDetectors a r u) := by
  unfold Machine.readDetectors
  dsimp only
  split <;> simp (maxDischargeDepth := 12) [h]

@[simp] theorem readContacts (h : Kept s u) (a : Nat) (f : SentFrame) (c : List ContactReading) :
    Kept s (readContacts a f c u) := by
  unfold Machine.readContacts
  dsimp only
  refine Kept.handDetections (Kept.setContacts (Kept.foldl (fun v p => ?_) _ h) _) _
  (repeat' split) <;> simp

@[simp] theorem readLamps (h : Kept s u) (a : Nat) (f : SentFrame) (l : List Bool) : Kept s (readLamps a f l u) := by
  unfold Machine.readLamps
  split
  · refine Kept.foldl (fun v e => ?_) _ h
    (repeat' split) <;> simp
  · exact h

@[simp] theorem readButtons (h : Kept s u) (l : List Bool) : Kept s (readButtons l u) := by
  unfold Machine.readButtons
  refine Kept.foldl (fun v e => ?_) _ h
  dsimp only
  split <;> simp

@[simp] theorem applyReadings (h : Kept s u) (a : Nat) (f : SentFrame) (d : InputData) : Kept s (applyReadings a f d u) := by
  unfold Machine.applyReadings
  split <;> simp (maxDischargeDepth := 12) [h]

@[simp] theorem loseButtons (h : Kept s u) (a : Nat) : Kept s (loseButtons a u) := by
  unfold Machine.loseButtons
  split
  · exact h.side _ rfl rfl rfl rfl rfl rfl rfl rfl rfl
  · exact h

@[simp] theorem loseHeads (h : Kept s u) (a : Nat) : Kept s (loseHeads a u) :=
  Kept.deriveList (Kept.foldl (by simp) _ h) _ _

@[simp] theorem loseChannels (h : Kept s u) (a : Nat) : Kept s (loseChannels a u) := by
  simp (maxDischargeDepth := 12) [Machine.loseChannels, h]

@[simp] theorem nodeOnline (h : Kept s u) (a : Nat) : Kept s (nodeOnline a u) := by
  unfold Machine.nodeOnline
  refine (Kept.deriveAll (Kept.foldl (fun v e => ?_) _ h) _).look
  split <;> simp

@[simp] theorem applyIdentity (h : Kept s u) (a : Nat) (k : NodeKind) (low fault : Bool) :
    Kept s (applyIdentity a k low fault u) := by
  unfold Machine.applyIdentity
  dsimp only
  split <;> simp (maxDischargeDepth := 12) [h]

@[simp] theorem applyInput (h : Kept s u) (a : Nat) (f : SentFrame) (d : InputData) (low fault : Bool) :
    Kept s (applyInput a f d low fault u) := by
  unfold Machine.applyInput
  dsimp only
  (repeat' split) <;> simp (maxDischargeDepth := 12) [h]

@[simp] theorem applyMiss (h : Kept s u) (a : Nat) : Kept s (applyMiss a u) := by
  unfold Machine.applyMiss
  dsimp only
  (repeat' split) <;> simp (maxDischargeDepth := 12) [h]

@[simp] theorem closeWith (h : Kept s u) (e : Exchange) (f : FieldFrame) : Kept s (closeWith e f u) := by
  unfold Machine.closeWith
  dsimp only
  (repeat' split) <;> simp (maxDischargeDepth := 12) [h]

@[simp] theorem closeExpired (h : Kept s u) (e : Exchange) : Kept s (closeExpired e u) := by
  simp (maxDischargeDepth := 12) [Machine.closeExpired, h]

/-! ## LTS -/

@[simp] theorem startLoop (h : Kept s u) : Kept s (startLoop u) := h.side _ rfl rfl rfl rfl rfl rfl rfl rfl rfl

@[simp] theorem stopLoop (h : Kept s u) : Kept s (stopLoop u) :=
  stopVisitors (h.trans ⟨rfl, rfl, rfl, rfl, rfl, rfl, rfl, ⟨[], rfl⟩, id, id, fun _ => rfl, fun _ _ _ => rfl⟩)

/-- The end of STOPPING keeps, since STOPPING has every signal at DANGER already. -/
theorem endStopping (h : Kept s u) (hu : u.mode = .stopping) : Kept s (endStopping u) := by
  have k : Kept s (Machine.enterMode .ready .stoppingEnd u) := h.enterMode _ _ (by decide) hu
  simp (maxDischargeDepth := 12) [Machine.endStopping, k]

/-! ## An event run to its end -/

@[simp] theorem runWork (h : Kept s u) (w : Work) : Kept s (runWork w u) := by
  unfold Machine.runWork
  split <;> simp (maxDischargeDepth := 12) [h]

theorem settleOnce (h : Kept s u) {t : State} (e : settleOnce u = some t) : Kept s t := by
  unfold Machine.settleOnce at e
  dsimp only at e
  (repeat' split at e) <;> simp only [Option.some.injEq, reduceCtorEq] at e <;> subst e
  · rename_i w rest _
    have k : Kept s (Machine.runWork w { u with work := [] }) :=
      Kept.runWork (h.side { u with work := [] } rfl rfl rfl rfl rfl rfl rfl rfl rfl) w
    exact k.side _ rfl rfl rfl rfl rfl rfl rfl rfl rfl
  · exact h.startExam
  · exact Kept.rescan (h.side _ rfl rfl rfl rfl rfl rfl rfl rfl rfl)
  · rename_i e
    refine h.endStopping ?_
    unfold State.stoppingOver at e
    simp only [Bool.and_eq_true, beq_iff_eq] at e
    exact e.1.1.1

@[simp] theorem settle (h : Kept s u) (n : Nat) : Kept s (settle n u) := by
  induction n generalizing u with
  | zero => exact h.side _ rfl rfl rfl rfl rfl rfl rfl rfl rfl
  | succ n ih =>
    unfold Machine.settle
    split
    · rename_i t e
      exact ih (h.settleOnce e)
    · exact h

/-- An event run to its end keeps what its effect has kept. -/
@[simp] theorem finish (h : Kept s u) : Kept s (finish u) := (h.settle _).refreshLamps

end Sys2Proof.Machine.Kept

namespace Sys2Proof.Machine

/-! ## Between events nothing is due -/

theorem settle_work (n : Nat) (s : State) : (settle n s).work = [] ∧ (settle n s).rescanDue = false := by
  induction n generalizing s with
  | zero => exact ⟨rfl, rfl⟩
  | succ n ih =>
    unfold settle
    split
    · exact ih _
    · rename_i e
      unfold settleOnce at e
      (repeat' split at e) <;> simp_all

/-- An event that has run to its end leaves no hand-off and no re-scan due. -/
theorem finish_work (s : State) : (finish s).work = [] ∧ (finish s).rescanDue = false := settle_work _ s

/-- Where nothing is due, the end of an event chooses the lamps afresh and does nothing more. -/
theorem finish_of_quiet (s : State) (h : settleOnce s = none) : finish s = refreshLamps s := by
  obtain ⟨n, e⟩ : ∃ n, settleLimit + s.work.length = n + 1 := ⟨4095 + s.work.length, by unfold settleLimit; omega⟩
  simp [finish, e, settle, h]

end Sys2Proof.Machine
end

