-- ==== Sys2Proof/Laws/Aspects.lean ====
section
/-! SUPPORT. What deriving a signal does to its record (R90 to R96), and where every derived signal stands at DANGER
(R91). -/

namespace Sys2Proof.Machine

theorem markCleared_sau (x : Nat) (s : State) : (markCleared x s).sau = s.sau := by
  unfold markCleared
  dsimp only
  split <;> rfl

theorem raise_sau (e : EventRec) (s : State) : (raise e s).sau = s.sau := rfl

/-- A signal derived afresh takes the aspect of R91 to R93 and what its proving value makes of it. -/
theorem deriveOne_signal (quiet : Bool) (x : Nat) (s : State) :
    (deriveOne quiet x s).signal x = ({ s.signal x with commanded := s.aspectOf x } : SignalWork).proved
      ((s.proving x).afterAspect (s.aspectOf x != (s.signal x).commanded)) := by
  unfold deriveOne
  dsimp only
  (repeat' split) <;> simp only [State.signal, markCleared_sau, raise_sau, State.setSignal_sau, State.setProving_sau,
    Tab.getD_put_same] <;> simp_all [State.signal]

/-- The other signals stay as they are. -/
theorem deriveOne_signal_other (quiet : Bool) {x y : Nat} (s : State) (h : y ≠ x) :
    (deriveOne quiet x s).signal y = s.signal y := by
  unfold deriveOne
  dsimp only
  (repeat' split) <;> simp only [State.signal, markCleared_sau, raise_sau, State.setSignal_sau, State.setProving_sau,
    Tab.getD_put_other _ _ _ h]

theorem deriveOne_commanded (quiet : Bool) (x : Nat) (s : State) :
    ((deriveOne quiet x s).signal x).commanded = s.aspectOf x := by
  rw [deriveOne_signal, Kept.proved_commanded]

theorem deriveSignal_danger (quiet : Bool) (n x : Nat) (s : State) (h : s.AllStop) :
    ((deriveSignal quiet (n + 1) x s).signal x).commanded = .danger := by
  have h1 : ((deriveOne quiet x s).signal x).commanded = .danger := by
    rw [deriveOne_commanded]
    exact Kept.aspectOf_danger s x (.inl h)
  have h2 : (deriveOne quiet x s).AllStop := (Kept.deriveOne (Kept.refl s) quiet x).stop h
  unfold deriveSignal
  dsimp only
  split
  · exact h1
  · exact (Kept.foldl (f := fun s y => deriveSignal quiet n y s) (fun v a => by simp) _ (Kept.refl _)).danger x (.inl h2) h1

theorem Tab.mem_keys_of_get? {α : Type} (t : Tab α) {k : Nat} {v : α} (h : t.get? k = some v) : k ∈ t.keys := by
  induction t with
  | nil => simp [Tab.get?] at h
  | cons e t ih =>
    obtain ⟨j, w⟩ := e
    simp only [Tab.get?] at h
    split at h
    · simp [Tab.keys, *]
    · have := ih h
      simp only [Tab.keys, List.map_cons, List.mem_cons]
      exact .inr this

theorem deriveList_danger (quiet : Bool) (l : List Nat) (x : Nat) (s : State) (h : s.AllStop) (hx : x ∈ l) :
    ((l.foldl (fun s y => deriveSignal quiet rippleDepth y s) s).signal x).commanded = .danger := by
  induction l generalizing s with
  | nil => simp at hx
  | cons y l ih =>
    have k : Kept s (deriveSignal quiet rippleDepth y s) := by simp
    simp only [List.foldl_cons]
    rcases List.mem_cons.1 hx with rfl | hx
    · exact (Kept.foldl (f := fun s y => deriveSignal quiet rippleDepth y s) (fun v a => by simp) _
        (Kept.refl _)).danger x (.inl (k.stop h)) (deriveSignal_danger quiet _ x s h)
    · exact ih _ (k.stop h) hx

theorem mem_withoutRepeats (k : Nat) (l : List Nat) : k ∈ withoutRepeats l ↔ k ∈ l := by
  induction l with
  | nil => rfl
  | cons j l ih => by_cases h : k = j <;> simp [withoutRepeats, ih, h]

/-- Whatever stands ahead of it, a signal of the list is derived. -/
theorem State.mem_derivingOrder (s : State) {x : Nat} {l : List Nat} (h : x ∈ l) : x ∈ s.derivingOrder l := by
  refine (mem_withoutRepeats _ _).2 (List.mem_flatMap.2 ⟨x, h, ?_⟩)
  unfold State.chainTo
  (repeat' split) <;> simp

/-- R91: outside RUNNING, or with the E-stop input asserted, every signal derived afresh stands at DANGER. -/
theorem deriveAll_danger (quiet : Bool) (s : State) (h : s.AllStop)
    (hx : ∀ x, s.signalRec x = none → (s.signal x).commanded = .danger) (x : Nat) :
    ((deriveAll quiet s).signal x).commanded = .danger := by
  cases e : s.signalRec x
  · exact (Kept.deriveAll (Kept.refl s) quiet).danger x (.inr e) (hx x e)
  · exact deriveList_danger quiet _ x s h (s.mem_derivingOrder (Tab.mem_keys_of_get? _ e))

end Sys2Proof.Machine
end

