-- ==== Sys2Proof/Laws/Image.lean ====
section
/-! SUPPORT. The bytes of an image (11.7): what a number in two bytes reads as, and that an image as LTS writes it is read
whole. -/

namespace Sys2Proof.Machine

theorem tableBytes_bounds (t : Tables) : 1 ≤ tableBytes t ∧ tableBytes t ≤ 32761 := by
  unfold tableBytes
  omega

@[simp] theorem tableField_length (t : Tables) : (tableField t).length = tableBytes t := by simp [tableField]

theorem imageFront_length (t : Tables) : (imageFront t).length = 5 + tableBytes t := by
  simp [imageFront, imageMarker, twoBytes]
  omega

theorem imageSum_lt (l : List Byte) : imageSum l < 65536 := Nat.mod_lt _ (by decide)

/-- Two bytes in the middle of a list read as the number they were written from. -/
theorem numberAt_twoBytes (front back : List Byte) (n : Nat) (h : n < 65536) :
    numberAt (front ++ twoBytes n ++ back) front.length = n := by
  simp [numberAt, twoBytes, List.getD_eq_getElem?_getD]
  omega

/-- An image as LTS writes it has the header and the check that a read asks for. -/
theorem judgeImage_imageBytes (t : Tables) : judgeImage (imageBytes t) = .read := by
  have hb := tableBytes_bounds t
  have hl := imageFront_length t
  have marker : (imageBytes t).take 3 = imageMarker := by simp [imageBytes, imageFront, imageMarker]
  have length : numberAt (imageBytes t) 3 = tableBytes t := by
    simpa [imageBytes, imageFront, imageMarker] using
      numberAt_twoBytes imageMarker (tableField t ++ twoBytes (imageSum (imageFront t))) (tableBytes t) (by omega)
  have sum : numberAt (imageBytes t) (5 + tableBytes t) = imageSum (imageFront t) := by
    simpa [imageBytes, hl] using numberAt_twoBytes (imageFront t) [] _ (imageSum_lt (imageFront t))
  have front : (imageBytes t).take (5 + tableBytes t) = imageFront t := by simp [imageBytes, ← hl]
  have whole : (imageBytes t).length = 7 + tableBytes t := by simp [imageBytes, twoBytes, hl]; omega
  simp [judgeImage, marker, length, sum, front, whole]
  omega

end Sys2Proof.Machine
end

