-- ==== Sys2Proof/Laws/Link.lean ====
section
/-! SUPPORT. What taking a request can do (R174), and what the shapes of a meaning can do. -/

namespace Sys2Proof.Machine

/-! ## The shapes of a meaning -/

theorem act_eq (f : State → State) {s : State} (h : s.inReset = false) : act f s = .next (f s) := by simp [act, h]

theorem act_reset (f : State → State) {s : State} (h : s.inReset = true) : act f s = .next s := by simp [act, h]

/-- An event that can occur runs to its end. -/
theorem actOn_some {α : Type} (t : State → Option α) (f : α → State → State) {s : State} (h : s.inReset = false) {a : α}
    (e : t s = some a) : actOn t f s = .next (finish (f a s)) := by simp [actOn, act, h, e]

/-- An event that cannot occur changes nothing. -/
theorem actOn_none {α : Type} (t : State → Option α) (f : α → State → State) {s : State} (e : t s = none) :
    actOn t f s = .next s := by
  unfold actOn act
  split <;> simp [e]

theorem actOn_cases {α : Type} (t : State → Option α) (f : α → State → State) (s : State) :
    actOn t f s = .next s ∨ ∃ a, t s = some a ∧ actOn t f s = .next (finish (f a s)) := by
  cases h : s.inReset
  · cases e : t s
    · exact .inl (actOn_none t f e)
    · exact .inr ⟨_, rfl, actOn_some t f h e⟩
  · exact .inl (act_reset _ h)

/-! ## Taking a request -/

theorem reply_eq (kind : Byte) (d : Decision) : reply kind d = d.1.replied kind d.2.result d.2.body := rfl

theorem serve_owner (kind : Byte) (owner : State → Decision) {s : State} (h : s.Listens) :
    serve kind owner s = .next (reply kind (owner (s.taken kind))) := by
  obtain ⟨h1, h2, h3⟩ := h
  have hm : (s.taken kind).mode = s.mode := rfl
  simp only [serve, act_eq _ h1, takeRequest, takeFrame, frameTaken, State.setHl_hl, h2, letThrough]
  change Host.Outcome.next (reply kind (if ((s.taken kind).mode.isBusy && !alwaysTaken kind) = true then _ else _)) = _
  rw [hm, h3]
  rfl

/-- IDENTIFY and GET_MODE are let through in every mode. -/
theorem serve_always (kind : Byte) (owner : State → Decision) {s : State} (h1 : s.inReset = false)
    (h2 : s.hl.inService = none) (hk : alwaysTaken kind = true) :
    serve kind owner s = .next (reply kind (owner (s.taken kind))) := by
  simp only [serve, act_eq _ h1, takeRequest, takeFrame, frameTaken, State.setHl_hl, h2, letThrough, hk]
  simp
  rfl

theorem serve_busy (kind : Byte) (owner : State → Decision) {s : State} (h1 : s.inReset = false)
    (h2 : s.hl.inService = none) (h3 : s.mode.isBusy = true) (hk : alwaysTaken kind = false) :
    serve kind owner s = .next ((s.taken kind).replied kind .busy) := by
  have hm : (s.taken kind).mode = s.mode := rfl
  simp only [serve, act_eq _ h1, takeRequest, takeFrame, frameTaken, State.setHl_hl, h2, letThrough]
  change Host.Outcome.next (reply kind (if ((s.taken kind).mode.isBusy && !alwaysTaken kind) = true then _ else _)) = _
  rw [hm, h3, hk]
  rfl

theorem serve_lost (kind : Byte) (owner : State → Decision) {s : State} (h1 : s.inReset = false)
    (h2 : s.hl.inService ≠ none) :
    serve kind owner s = .next (s.setHl { s.hl with receiver := .hunting, requestLost := true }) := by
  have : s.hl.inService.isSome = true := by
    cases e : s.hl.inService <;> simp_all
  simp [serve, act_eq _ h1, takeRequest, takeFrame, frameTaken, this]
  rfl

/-- A command that is a request is its owner's decision, served. -/
theorem exec_request {c : Instr} {kind : Byte} {owner : State → Decision} (h : requestKind c = some kind)
    (ho : ownerOf c = some owner) (s : State) : exec c s = serve kind owner s := by
  cases c <;> simp only [requestKind, Option.some.injEq, reduceCtorEq] at h <;>
    simp only [ownerOf, Option.some.injEq] at ho <;> subst h <;> subst ho <;> rfl

theorem ownerOf_request {c : Instr} {kind : Byte} (h : requestKind c = some kind) :
    ∃ owner, ownerOf c = some owner := by
  cases c <;> simp only [requestKind, reduceCtorEq] at h <;> exact ⟨_, rfl⟩

end Sys2Proof.Machine
end

