-- ==== Sys2Proof/Laws/Quiet.lean ====
section
/-! SUPPORT. What the end of an event can do where it has no consequence beyond its own: no visitor waits, no script
runs and no request is held. -/

namespace Sys2Proof.Machine

/-- A hand-off to VPC that changes nothing where no visitor waits and no script runs, or a record still to be raised. -/
def Work.isNeutral : Work → Bool
  | .raise _ | .routeChange _ _ _ | .tableChange | .headChange _ _ | .trackChange _ _ | .startExam | .beginStep
  | .judgeScript => true
  | .moveReport _ _ | .press _ => false

/-- The records that a list of hand-offs still raises. -/
def raisedBy (l : List Work) : List EventRec :=
  l.filterMap fun w => match w with
    | .raise e => some e
    | _ => none

/-- The records are raised in their order. -/
def raiseAll (l : List EventRec) (s : State) : State := s.setHl (s.hl.raised l)

theorem raiseAll_nil (s : State) : raiseAll [] s = s := rfl

theorem raiseAll_cons (e : EventRec) (l : List EventRec) (s : State) : raiseAll (e :: l) s = raiseAll l (raise e s) := rfl

/-- What has no consequence beyond its own event. -/
structure Calm (s : State) : Prop where
  queue : s.vpc.queue = []
  runner : s.vpc.runner = {}
  held : s.rie.heldQueue = []
  mode : s.mode ≠ .stopping

theorem State.Quiet.calm {s : State} (h : s.Quiet) : Calm s := ⟨h.2.1.1, h.2.1.2, h.2.2.1, h.2.2.2⟩

variable {s : State}

theorem Calm.startable (h : Calm s) : s.startable = none := by
  unfold State.startable
  rw [h.queue]
  split <;> rfl

theorem Calm.stopping (h : Calm s) : s.stoppingOver = false := by
  have := h.mode
  simp [State.stoppingOver, this]

theorem Calm.startExam (h : Calm s) : startExam s = s := by simp [Machine.startExam, h.startable]

theorem Calm.rescan (h : Calm s) : rescan s = s := by
  unfold Machine.rescan
  rw [h.held]
  split <;> rfl

theorem Calm.currentStep (h : Calm s) : s.currentStep = none := by simp [State.currentStep, h.runner]

theorem Calm.setRunner (h : Calm s) : s.setRunner {} = s := by
  have hr := h.runner
  unfold State.setRunner
  rw [← hr]

theorem Calm.routeNews (h : Calm s) (q : Nat) (st : RouteState) (c : RouteCause) : routeNews q st c s = s := by
  have hr := h.runner
  unfold Machine.routeNews
  simp only [hr, List.filter_nil, reduceCtorEq, false_and, if_false]
  (repeat' split) <;> first | rfl | exact h.setRunner

theorem Calm.runWork (h : Calm s) {w : Work} (hw : w.isNeutral = true) : runWork w s = raiseAll (raisedBy [w]) s := by
  cases w <;> simp only [Work.isNeutral, reduceCtorEq] at hw
  case raise e => rfl
  case routeChange q st c => exact h.routeNews q st c
  case tableChange => simp [Machine.runWork, tableNews, h.currentStep]; rfl
  case headChange n t => simp [Machine.runWork, headNews, h.currentStep]; rfl
  case trackChange t o => simp [Machine.runWork, trackNews, h.currentStep]; rfl
  case startExam => exact h.startExam
  case beginStep => simp [Machine.runWork, beginStep, h.currentStep]; rfl
  case judgeScript => simp [Machine.runWork, judgeScript, h.runner]; rfl

theorem settle_calm (l : List Work) (n : Nat) (s : State) (h : Calm s) (hw : s.work = l) (hl : ∀ w ∈ l, w.isNeutral = true)
    (hn : l.length + 1 < n) : settle n s = { raiseAll (raisedBy l) s with work := [], rescanDue := false } := by
  induction l generalizing n s with
  | nil =>
    obtain ⟨n, rfl⟩ : ∃ k, n = k + 2 := ⟨n - 2, by simp at hn; omega⟩
    cases hr : s.rescanDue
    · have e : settleOnce s = none := by simp [settleOnce, hw, h.startable, hr, h.stopping]
      simp only [settle, e]
      cases s
      simp_all [raisedBy, raiseAll]
      rfl
    · have h2 : Calm { s with rescanDue := false, work := [] } := ⟨h.queue, h.runner, h.held, h.mode⟩
      have e : settleOnce s = some { s with rescanDue := false, work := [] } := by
        simp only [settleOnce, hw, h.startable, hr, Option.isSome_none, Bool.false_eq_true, if_false, if_true]
        rw [h2.rescan]
      have e2 : settleOnce { s with rescanDue := false, work := [] } = none := by
        simp only [settleOnce, h2.startable, h2.stopping, Option.isSome_none, Bool.false_eq_true, if_false]
      simp only [settle, e, e2]
      rfl
  | cons w l ih =>
    obtain ⟨n, rfl⟩ : ∃ k, n = k + 1 := ⟨n - 1, by simp at hn; omega⟩
    have h2 : Calm { s with work := [] } := ⟨h.queue, h.runner, h.held, h.mode⟩
    have e : settleOnce s = some { raiseAll (raisedBy [w]) s with work := l } := by
      simp only [settleOnce, hw]
      rw [h2.runWork (hl w (List.mem_cons_self ..))]
      rfl
    simp only [settle, e]
    refine (ih n { raiseAll (raisedBy [w]) s with work := l } ⟨h.queue, h.runner, h.held, h.mode⟩ rfl
      (fun v hv => hl v (List.mem_cons_of_mem _ hv)) (by simp at hn; omega)).trans ?_
    cases w <;> rfl

/-- Where an event has no consequence beyond its own, its end raises what is still to be raised and chooses the lamps
afresh. -/
theorem finish_calm (s : State) (h : Calm s) (hl : ∀ w ∈ s.work, w.isNeutral = true) :
    finish s = (raiseAll (raisedBy s.work) s).settled := by
  unfold finish
  rw [settle_calm s.work _ s h rfl hl (by unfold settleLimit; omega)]
  rfl

/-- The same where nothing is left to be handed on. -/
theorem finish_calm_idle (s : State) (h : Calm s) (hw : s.work = []) : finish s = s.settled := by
  rw [finish_calm s h (by simp [hw]), hw]
  rfl

end Sys2Proof.Machine
end

