-- ==== Sys2Proof/WellFormed.lean ====
section
/-! DEFINITION. Well-formed commands: the lengths that a frame fixes and the indexes that a table admits.
Values out of range are no matter of well-formedness: the owner of a request refuses them. -/

namespace Sys2Proof

/-- Numbers strictly rising, and between 1 and `hi`. -/
def risingWithin (hi : Nat) : Nat → List Nat → Bool
  | _, [] => true
  | lo, k :: ks => decide (lo < k) && decide (k ≤ hi) && risingWithin hi k ks

/-- The indexes of every table are those of 1.1, each at most once and in order. -/
def Tables.wf (t : Tables) : Bool :=
  risingWithin 31 0 (t.nodes.map (·.1)) && risingWithin 128 0 (t.tracks.map (·.1))
    && risingWithin 64 0 (t.points.map (·.1)) && risingWithin 64 0 (t.signals.map (·.1))
    && risingWithin 192 0 (t.routes.map (·.1)) && risingWithin 8 0 (t.districts.map (·.1))
    && risingWithin 24 0 (t.roads.map (·.1)) && risingWithin 16 0 (t.scripts.map (·.1))
    && risingWithin 12 0 (t.berths.map (·.1))

/-- An INPUT answer carries one reading for each input of its kind (2.4). -/
def InputData.wf : InputData → Bool
  | .detect r => r.length == 16
  | .point c => c.length == 8
  | .signal r => r.length == 8
  | .panel r => r.length == 16
  | .absent | .board => true

/-- A field frame whose inputs have the form of their kind. -/
def FieldFrame.wf (f : FieldFrame) : Bool :=
  match f.body with
  | .input d _ _ => d.wf
  | _ => true

/-- The form of a command's operands. A train code is a field of six bytes, a text or a list takes the rest of a body
of at most 124 bytes (11.8). -/
def Instr.wf : Instr → Bool
  | .imageLoadDone (.image t _) => t.wf
  | .trainInterpose code _ _ _ _ _ => code.length == 6
  | .trainCancel code _ => code.length == 6
  | .trainStatus (.code c) => c.length == 6
  | .messagePut _ _ text => decide (text.length ≤ 122)
  | .rotationSet _ slots => decide (slots.length ≤ 123)
  | .badKindOrLength _ n => decide (n ≤ 124)
  | .fieldReplyReceived f => f.wf
  | .throwLimitExpired p => decide (1 ≤ p ∧ p ≤ 64)
  | .slotRelease n => decide (1 ≤ n ∧ n ≤ 4)
  | .restoreUnwind c => decide (1 ≤ c ∧ c ≤ 4)
  | .heldExpiry q => decide (1 ≤ q ∧ q ≤ 192)
  | .approachTimerExpired q => decide (1 ≤ q ∧ q ≤ 192)
  | .overlapTimerExpired q => decide (1 ≤ q ∧ q ≤ 192)
  | .visitorWaitExpired b => decide (1 ≤ b ∧ b ≤ 16)
  | .coolDownExpired k => decide (1 ≤ k ∧ k ≤ 16)
  | _ => true

end Sys2Proof
end

