-- ==== Sys2Proof/Tests/Slice0.lean ====
section
/-! SUPPORT. The model's own tests: what the well-formedness check refuses, worked values of the spec, and for every
statement with hypotheses a state and operands that meet them, clause by clause. -/

namespace Sys2Proof.Tests

open Sys2Proof Sys2Proof.Machine

/-! ## Well-formedness: one ill-formed term for each check -/

theorem test_wf_refuses_numbers_of_tables :
    Tables.wf { nodes := [(32, {})] } = false
    ∧ Tables.wf { tracks := [(0, { district := 1, detNode := 1, detInput := 1 })] } = false
    ∧ Tables.wf { points := [(65, { district := 1, drvNode := 1, drvChan := 1, track := 1 })] } = false
    ∧ Tables.wf { signals := [(2, { district := 1, headNode := 1, head := 1 }),
                              (1, { district := 1, headNode := 1, head := 2 })] } = false
    ∧ Tables.wf { routes := [(193, { entry := 1, exit := 0, path := [1] })] } = false
    ∧ Tables.wf { districts := [(9, {})] } = false
    ∧ Tables.wf { roads := [(25, { position := 0, track := 1 })] } = false
    ∧ Tables.wf { scripts := [(17, { button := 1, steps := [] })] } = false
    ∧ Tables.wf { berths := [(4, {}), (4, {})] } = false
    ∧ (Instr.imageLoadDone (.image { berths := [(13, {})] } [])).wf = false := by decide

theorem test_wf_refuses_inputs :
    InputData.wf (.detect []) = false ∧ InputData.wf (.point []) = false ∧ InputData.wf (.signal [true]) = false
    ∧ InputData.wf (.panel [false]) = false
    ∧ (Instr.fieldReplyReceived { checkGood := true, address := 1, body := .input (.detect []) false false }).wf = false :=
  by decide

theorem test_wf_refuses_operands :
    (Instr.trainInterpose [] 1 0 0 0 0).wf = false ∧ (Instr.trainCancel [0x41#8] 0).wf = false
    ∧ (Instr.trainStatus (.code [])).wf = false ∧ (Instr.messagePut 1 0 (List.replicate 123 0x41#8)).wf = false
    ∧ (Instr.rotationSet 0 (List.replicate 124 1#8)).wf = false ∧ (Instr.badKindOrLength 0 125).wf = false
    ∧ (Instr.throwLimitExpired 65).wf = false ∧ (Instr.slotRelease 5).wf = false ∧ (Instr.restoreUnwind 0).wf = false
    ∧ (Instr.heldExpiry 193).wf = false ∧ (Instr.approachTimerExpired 0).wf = false
    ∧ (Instr.overlapTimerExpired 193).wf = false ∧ (Instr.visitorWaitExpired 17).wf = false
    ∧ (Instr.coolDownExpired 0).wf = false := by decide +kernel

theorem test_wf_takes_the_rest :
    (Instr.trainCancel (List.replicate 6 0x41#8) 0).wf = true ∧ (Instr.slotRelease 4).wf = true
    ∧ (Instr.heldExpiry 192).wf = true ∧ Instr.identify.wf = true := by decide

/-! ## Worked values -/

/-- The table gives its rows no bits. -/
theorem test_no_word_spells_a_command : decodeTableWord 8 0x09 = none := rfl

/-- 11.8: kind 0x20 with route, origin, options and a hold limit of two bytes, most significant first. -/
theorem test_route_set_bytes :
    requestOf 0x20#8 [0x11#8, 0x01#8, 0x03#8, 0x01#8, 0x2C#8] = .request (.routeSet 0x11#8 0x01#8 0x03#8 0x012C#16) := by
  decide

/-- 11.8: a body of a length the kind does not carry, and a kind that is none. -/
theorem test_bad_frames : requestOf 0x20#8 [0x11#8] = .badLength ∧ requestOf 0x0D#8 [] = .badKind := by decide

/-- R173: the bytes from the length to the check sum to 0 modulo 256. -/
theorem test_frame_sums_to_zero : frameBytes 0x02#8 [] = [0xA5#8, 0x01#8, 0x02#8, 0xFD#8] := by decide

/-- A turntable as in 9.7: 1600 full steps, microstep shift 2, backlash 24, ramp 200 steps from 400 to 2400 steps/s. -/
def deck : TurntableRec :=
  { fullSteps := 1600, microShift := 2, backlash := 24, rampSteps := 200, startRate := 400, topRate := 2400,
    slipTolerance := 16, boltPresent := true, boltLimit := some 10 }

/-- The table of R150: a leg of 24 steps has its fastest step at k = 11, and one of 1524 reaches the top rate. -/
theorem test_rates : deck.rateOf 24 0 = 400 ∧ deck.rateOf 24 11 = 510 ∧ deck.rateOf 24 12 = 510 ∧ deck.rateOf 24 23 = 400
    ∧ deck.rateOf 1524 200 = 2400 ∧ deck.rateOf 1524 1323 = 2400 ∧ deck.rateOf 1524 1324 = 2390 := by decide

/-- R150: 250 microseconds at 4000 steps/s and 20,000 at 50. -/
theorem test_intervals : stepInterval 4000 = 250 ∧ stepInterval 50 = 20000 := by decide

/-- R148: a CCW displacement runs past its target and comes back CW. -/
theorem test_legs : deck.legsOf (-1500) = [-1524, 24] ∧ deck.legsOf 5 = [5] ∧ deck.legsOf 0 = [] := by decide

/-- R151: a leg stopped in its cruise, in its deceleration, and between legs. -/
theorem test_stops : stoppedLength 1000 300 = 601 ∧ stoppedLength 1000 900 = 1000 ∧ stoppedLength 24 0 = 1 := by decide

/-- R44: 255 is followed by 1. -/
theorem test_numbers : nextNumber 255 = 1 ∧ nextNumber 0 = 1 ∧ nextNumber 7 = 8 := by decide

/-- R45: pulse_code 7 with recharge_ms 2000 holds a slot for 2.18 s. -/
theorem test_longest_slot :
    State.pulseRelease { lts := { tables := { general := { rechargeMs := 2000 } } } }
      { district := 1, drvNode := 1, drvChan := 1, pulseCode := some 7, track := 1 } 0 = 2180000 := by decide

/-- R32: with clear_count 4 three clear readings leave an OCCUPIED section OCCUPIED and the fourth clears it. -/
theorem test_debounce :
    (((TrackRead.read { occupancy := .occupied, firstPending := false } {} false).read {} false).read {} false).occupancy
      = .occupied
    ∧ ((((TrackRead.read { occupancy := .occupied, firstPending := false } {} false).read {} false).read {} false).read
      {} false).occupancy = .clear := by decide

/-- R177: a full queue loses a record and says so before the next one that finds room. -/
theorem test_losses_are_reported :
    ((Hl.enqueue { queue := List.replicate 64 startingRecord } startingRecord).dropped = 1)
    ∧ (Hl.enqueue { queue := [], dropped := 3 } startingRecord).queue.map (·.kind) = [.eventsDropped, .modeChanged] := by
  decide

/-- R135 and R137 on the deck above, at p = 0 and unbolted: the first step of the move is issued at once. -/
theorem test_move_starts :
    (Ttc.startMove { state := .stopped, homed := true, boltEngage := false } {} deck 0
      { road := 1, deckEnd := .end1, origin := .auto, context := 0, legs := [10] }).p = 1 := by decide

/-! ## Witnesses: for each statement with hypotheses, states and operands that meet them, clause by clause -/

/-- A small layout: a solenoid point and a motor point, a road with a deck, three routes, a script. -/
def layout : Tables :=
  { nodes := [(1, { kind := .detect }), (2, { kind := .point }), (3, { kind := .signal })]
    tracks := [(1, { district := 1, detNode := 1, detInput := 1, endB := .track 2 }),
               (2, { district := 1, detNode := 1, detInput := 2, endA := .track 1, endB := .track 3 }),
               (3, { district := 1, detNode := 1, detInput := 3, endA := .track 2 }),
               (4, { district := 1, detNode := 1, detInput := 4, kind := .deck, endA := .table 1, endB := .table 2 }),
               (5, { district := 1, detNode := 1, detInput := 5, kind := .road, endA := .table 0 })]
    points := [(1, { district := 1, drvNode := 2, drvChan := 1, track := 1 }),
               (2, { district := 1, drvNode := 2, drvChan := 2, driveKind := .motor, pulseCode := none, track := 2 })]
    signals := [(1, { district := 1, headNode := 3, head := 1 }), (2, { district := 1, headNode := 3, head := 2 })]
    routes := [(1, { entry := 1, exit := 2, path := [1, 2], reqs := [⟨1, .normal, .path, 1⟩], overlap := [3],
                     approach := [3] }),
               (2, { cls := .shunt, entry := 2, exit := 0, path := [4, 5], deck := some (1, .end1) }),
               (192, { entry := 2, exit := 0, path := [3] })]
    turntable := some deck
    roads := [(1, { position := 0, track := 5 }), (24, { position := 400, track := 5, endsAllowed := .end1 })]
    scripts := [(1, { button := 1, steps := [.pause 5] })] }

/-- A state on that layout in a mode. -/
def inMode (m : Mode) : State := { lts := { tables := layout, mode := m, routeSets := [(1, [1]), (2, [1])] } }

theorem witness_StepRunsFrontCommand : ({ pending := [.identify, .start] } : State).pending = .identify :: [.start] := rfl

theorem witness_ColdStartAndResetValues :
    (State.reset.pending = [] ∧ State.reset.inReset = false ∧ ({ inReset := true } : State).pending = []
      ∧ ({ inReset := true } : State).inReset = true ∧ Instr.identify ≠ .resetNAsserted)
    ∧ ∀ e b x, Instr.identify ≠ .coldStart e b x := ⟨by decide, fun _ _ _ h => by cases h⟩

theorem reset_good : State.reset.LinkGood := by
  unfold State.LinkGood Hl.Good; decide

theorem witness_LinkBoundsKeptByEveryStep : State.reset.LinkGood ∧ ∃ t, step State.reset = .next t :=
  ⟨reset_good, _, rfl⟩

theorem witness_NothingDueBetweenSteps : State.reset.NothingDue ∧ ∃ t, step State.reset = .next t :=
  ⟨by decide, _, rfl⟩

theorem witness_SignalsAtDangerKeptByEveryStep : State.reset.DangerKept ∧ ∃ t, step State.reset = .next t :=
  ⟨fun _ _ => rfl, _, rfl⟩

theorem reset_interlocked : State.reset.Interlocked where
  fewWait := by decide
  waitOnce := by decide
  waiting := fun _ => ⟨fun h => absurd h List.not_mem_nil, fun h => by cases h⟩
  present := fun _ h => absurd rfl h
  free := fun _ _ => rfl
  held := fun _ h => by cases h
  lock := fun _ h => absurd rfl h
  holders := fun _ => ⟨Nat.zero_le 4, List.nodup_nil, fun _ h => absurd h List.not_mem_nil, fun _ h => absurd h List.not_mem_nil⟩
  entry := fun _ h => absurd rfl h
  deck := fun h => absurd rfl h
  setting := fun _ h => by cases h
  restoring := fun _ h => h.elim (fun h => by cases h) fun h => by cases h
  set := fun _ h => by cases h
  forced := fun _ h => by cases h
  approach := fun _ h => absurd rfl h
  overlap := fun _ h => absurd rfl h

theorem witness_InterlockingKeptByEveryStep : State.reset.Interlocked ∧ ∃ t, step State.reset = .next t :=
  ⟨reset_interlocked, _, rfl⟩

theorem witness_FrameBytesMakeTheirRequest :
    requestOf 0x10#8 [0x03#8, 0xFF#8] = .request (.eventMask 0x03FF#16) ∧ State.reset.inReset = false
    ∧ State.reset.hl.receiver = .hunting := by decide

theorem witness_StoredThingsChangeByTheirCommandsOnly :
    (∃ t, exec .start (inMode .ready) = .next t) ∧ changesTables .start = false ∧ changesDistricts .start = false
    ∧ changesMemory .start = false ∧ changesMask .start = false := ⟨⟨_, rfl⟩, by decide⟩

/-- A link in the midst of things. -/
def linked (h : Hl) : State := { inMode .ready with hl := h }

theorem witness_FramesAndTheirBytes :
    (requestKind .start = some 0x09#8 ∧ (0x09#8 : Byte) ≠ 0x01#8 ∧ (0x09#8 : Byte) ≠ 0x02#8
      ∧ State.reset.inReset = false ∧ State.reset.hl.inService = none ∧ State.reset.mode = .starting
      ∧ (inMode .checking).mode = .checking)
    ∧ (requestKind .identify = some 0x01#8 ∧ ({ hl := { inService := some 0x09#8 } } : State).inReset = false
      ∧ ({ hl := { inService := some 0x09#8 } } : State).hl.inService ≠ none)
    ∧ ((linked {}).inReset = false ∧ (linked { inService := some 9 }).hl.inService ≠ none
      ∧ (linked {}).hl.inService = none ∧ isRequestKind 0x0D#8 = false ∧ isRequestKind 0x20#8 = true
      ∧ lengthSuits 0x20#8 4 = false)
    ∧ (linked {}).hl.receiver = .hunting ∧ (0xA4#8 : Byte) ≠ 0xA5#8
    ∧ (linked { receiver := .inFrame [] }).hl.receiver = .inFrame []
    ∧ ((0#8 : Byte).toNat = 0 ∧ 125 < (126#8 : Byte).toNat ∧ 1 ≤ (1#8 : Byte).toNat ∧ (125#8 : Byte).toNat ≤ 125)
    ∧ (linked { receiver := .inFrame [1#8] }).hl.receiver = .inFrame (1#8 :: []) ∧ ([] : List Byte).length < (1#8 : Byte).toNat
    ∧ (1#8 : Byte).toNat ≤ [2#8].length ∧ byteSum (1#8 :: [2#8] ++ [0xFC#8]) ≠ 0#8 := by decide

/-- Two records that wait to be sent. -/
def waiting : List EventRec := [startingRecord, eventOf .checkDone .mode 0]

theorem witness_TransmitterAndItsHold :
    (linked {}).Listens ∧ (linked { reply := some { kind := 9, result := .ok } }).hl.tx = .idle
    ∧ (linked { reply := some { kind := 9, result := .ok } }).hl.reply = some { kind := 9, result := .ok }
    ∧ (linked { queue := waiting }).hl.reply = none ∧ (linked { queue := waiting }).hl.queue = startingRecord :: waiting.tail
    ∧ (linked { queue := waiting }).hl.hold = false ∧ (linked { hold := true }).hl.hold = true
    ∧ (linked { tx := .event startingRecord }).hl.tx = .event startingRecord
    ∧ (linked { tx := .reply { kind := 9, result := .ok } true }).hl.tx = .reply { kind := 9, result := .ok } true := by
  decide

theorem witness_EventMaskRule :
    (linked {}).Listens ∧ (linked { mask := 3 }).hl.mask.getLsbD EventClass.signals.bit = false
    ∧ (linked { queue := waiting }).inReset = false ∧ (linked { queue := waiting }).hl.tx = .idle
    ∧ (linked { queue := waiting }).hl.reply = none ∧ (linked { queue := waiting }).hl.hold = false
    ∧ (linked { queue := waiting }).hl.queue = startingRecord :: waiting.tail ∧ changesMask .start = false
    ∧ (∃ t, exec (.coldStart false 0 false) State.reset = .next t) ∧ ∃ t, exec .start (inMode .ready) = .next t :=
  by and_intros <;> first | decide | exact ⟨_, rfl⟩

theorem witness_EventQueueRule :
    ({} : Hl).mask.getLsbD startingRecord.cls.bit = true
    ∧ (({ queue := List.replicate 63 startingRecord } : Hl).dropped = 0
      ∧ ({ queue := List.replicate 63 startingRecord } : Hl).queue.length < 64)
    ∧ (0 < ({ dropped := 1, queue := List.replicate 62 startingRecord } : Hl).dropped
      ∧ ({ dropped := 1, queue := List.replicate 62 startingRecord } : Hl).queue.length < 63)
    ∧ ({ dropped := 1, queue := List.replicate 63 startingRecord } : Hl).queue.length = 63
    ∧ 64 ≤ ({ queue := List.replicate 64 startingRecord } : Hl).queue.length := by decide

theorem witness_TableWriteAndReadAnswers :
    (inMode .ready).Listens ∧ (inMode .ready).mode ≠ .configuring ∧ (inMode .configuring).Listens
    ∧ (inMode .configuring).mode = .configuring ∧ addressesRecord 0 0 = false ∧ addressesRecord 2 32 = false
    ∧ addressesRecord 2 31 = true ∧ addressesRecord 6 192 = true
    ∧ (inMode .configuring).tables.writeRecord 4 64 (.point {}) = none
    ∧ (inMode .configuring).tables.writeRecord 2 31 (.node (.given .board)) ≠ none
    ∧ (inMode .configuring).tables.readRecord 6 191 = none ∧ (inMode .configuring).tables.readRecord 6 192 ≠ none := by
  decide

theorem witness_TableWriteReplacesOneRecord :
    (addressesRecord 2 31 = true ∧ addressesRecord 2 1 = true ∧ (2, 1) ≠ (2, 31)
      ∧ addressesRecord 6 192 = true ∧ addressesRecord 1 1 = true)
    ∧ (layout.writeRecord 1 1 (.general {}) ≠ none ∧ layout.writeRecord 2 31 (.node (.given .board)) ≠ none
      ∧ layout.writeRecord 3 128 (.track { district := .given 8, detector := .given (31, 16) }) ≠ none
      ∧ layout.writeRecord 4 64 (.point { district := .given 1, drive := .given (1, 8), track := .given 128 }) ≠ none
      ∧ layout.writeRecord 4 1 (.point { district := .given 1, drive := .given (1, 8), driveKind := .given .motor,
                                         track := .given 1 }) ≠ none
      ∧ layout.writeRecord 5 64 (.signal { district := .given 1, head := .given (1, 8) }) ≠ none
      ∧ layout.writeRecord 6 192 (.route { entry := .given 1, exit := .given 0, path := .given [1] }) ≠ none
      ∧ layout.writeRecord 7 8 (.district {}) ≠ none
      ∧ layout.writeRecord 8 1 (.turntable { fullSteps := .given 200 }) ≠ none
      ∧ layout.writeRecord 8 1 (.turntable { fullSteps := .given 200, boltPresent := .given true }) ≠ none
      ∧ layout.writeRecord 9 24 (.road { position := .given 0, track := .given 1 }) ≠ none
      ∧ layout.writeRecord 10 16 (.script { button := .given 16, trainCode := .given [0x62#8], steps := .given [.pause 5] })
        ≠ none
      ∧ layout.writeRecord 11 12 (.berth .omitted) ≠ none) := by decide

/-- The least tables that pass the check. -/
def oneTrack : Tables := { nodes := [(1, { kind := .detect })], tracks := [(1, { district := 1, detNode := 1, detInput := 1 })] }

/-- A state that checks for a COMMIT or a RELOAD. -/
def inCheck (t : Tables) (x : CheckSource) : State := { lts := { tables := t, mode := .checking, checking := some x } }

theorem witness_PassingCheckEntersReady :
    ({ serial := .holds oneTrack (imageBytes oneTrack) } : State).serial = .holds oneTrack (imageBytes oneTrack)
    ∧ ({ serial := .holds oneTrack (imageBytes oneTrack) } : State).Quiet
    ∧ ({ serial := .holds oneTrack (imageBytes oneTrack) } : State).loading = true
    ∧ State.reset.inReset = false ∧ State.reset.Quiet ∧ State.reset.loading = true ∧ (inCheck {} .reload).Quiet
    ∧ (inCheck {} .reload).loading = true ∧ (oneTrack.check []).code = .pass ∧ (inCheck oneTrack .commit).Quiet
    ∧ (inCheck oneTrack .commit).mode = .checking ∧ (inCheck oneTrack .commit).lts.checking = some .commit :=
  ⟨rfl, by decide, by decide, by decide +kernel⟩

theorem witness_FailingCheckReturns :
    ({ serial := .holds {} (imageBytes {}) } : State).serial = .holds {} (imageBytes {})
    ∧ ({ serial := .holds {} (imageBytes {}) } : State).Quiet
    ∧ ({ serial := .holds {} (imageBytes {}) } : State).loading = true
    ∧ State.reset.inReset = false ∧ State.reset.Quiet ∧ State.reset.loading = true ∧ (({} : Tables).check []).code ≠ .pass
    ∧ ({ serial := .damaged } : State).loading = true ∧ ({ serial := .damaged } : State).serial = .damaged
    ∧ (inCheck {} .commit).Quiet ∧ (inCheck {} .commit).mode = .checking
    ∧ (inCheck {} .commit).lts.checking = some .commit ∧ (inCheck {} .commit).tables.check.code ≠ .pass :=
  ⟨rfl, by decide, by decide, by decide +kernel⟩

/-- The header and the check are what 11.7's table asks: a byte of them changed, and the image is not read. -/
theorem test_images :
    judgeImage [0x49, 0x58, 0x01, 0, 1, 7, 0, 0xAA] = .read ∧ judgeImage [0x49, 0x58, 0x01, 0, 1, 7, 0, 0xAB] = .badCheck
    ∧ judgeImage [0x49, 0x58, 0x02, 0, 1, 7, 0, 0xAB] = .badHeader ∧ judgeImage [0x49, 0x58, 0x01, 0, 0, 0, 0xA2] = .badHeader := by
  decide

/-- A STORE in progress. -/
def storing (m : Mode) : State := { lts := { tables := oneTrack, mode := m, storing := some oneTrack } }

theorem witness_StoreAndItsEnd :
    (inMode .halted).Listens ∧ (inMode .halted).mode ≠ .ready ∧ (inMode .halted).mode ≠ .running
    ∧ (storing .running).Listens ∧ (storing .running).mode = .running ∧ (storing .running).lts.storing ≠ none
    ∧ (inMode .ready).Listens ∧ (inMode .ready).Quiet ∧ (inMode .ready).mode = .ready
    ∧ (inMode .ready).lts.storing = none ∧ (storing .ready).inReset = false ∧ (storing .ready).Quiet
    ∧ (storing .ready).lts.storing = some oneTrack := by decide

/-- A state with the E-stop input asserted. -/
def stopped (m : Mode) : State := { lts := { tables := layout, mode := m, estop := true } }

theorem witness_ConfiguringAndStart :
    (∀ m, m = .unconfigured ∨ m = .ready ∨ m = .configuring ∨ m = .running →
      (inMode m).Listens ∧ (inMode m).Quiet ∧ (inMode m).mode = m ∧ (inMode m).lts.storing = none
      ∧ (inMode m).lts.estop = false)
    ∧ ((storing .ready).Listens ∧ (storing .ready).Quiet ∧ (storing .ready).lts.storing ≠ none)
    ∧ ((stopped .ready).Listens ∧ (stopped .ready).mode = .ready ∧ (stopped .ready).lts.estop = true)
    ∧ ((inMode .ready).signalRec 1 ≠ none ∧ (inMode .ready).entryHolder 1 = 0) := by
  refine ⟨fun m h => ?_, by decide⟩
  rcases h with rfl | rfl | rfl | rfl <;> decide

/-- A running controller with a held route, a locked one whose overlap timer runs, a throw on its way, a move, a visitor
who waits and a script that runs. -/
def atWork (m : Mode) : State :=
  { inMode m with
    rie := { routes := [(1, { state := .locked, overlapTimer := some 9 }), (2, { state := .held, hold := .runs 9 })],
             heldQueue := [2] }
    pts := { points := [(1, { order := some { lie := .normal, cause := .individual, requesters := [.origin .auto],
                                              placedAt := 0 } })],
             queue := [1] }
    ttc := { state := .moving, homed := true,
             move := some { road := 1, deckEnd := .end1, origin := .auto, context := 0, legs := [10] } }
    vpc := { enable := true, queue := [{ button := 2, script := 1, pressedAt := 0, expiresAt := 9 }],
             runner := { script := 1, button := 1, awaiting := .time, stepTimer := some 9, runtimeAt := some 99 } } }

theorem witness_HaltAndEstop :
    (atWork .running).NothingDue ∧ (atWork .running).mode = .running ∧ (atWork .running).Listens
    ∧ (atWork .stopping).NothingDue ∧ (atWork .stopping).mode = .stopping ∧ (atWork .stopping).inReset = false
    ∧ (atWork .stopping).lts.estop = false ∧ (atWork .stopping).tables.turntable ≠ none
    ∧ (inMode .halted).Listens ∧ (inMode .halted).mode = .halted ∧ (inMode .ready).Listens ∧ (inMode .ready).mode ≠ .halted
    ∧ (inMode .ready).mode ≠ .running ∧ (inMode .ready).mode ≠ .stopping ∧ (inMode .ready).inReset = false
    ∧ (inMode .ready).Quiet ∧ (inMode .ready).lts.estop = false ∧ (stopped .halted).inReset = false
    ∧ (stopped .halted).Quiet ∧ (stopped .halted).lts.estop = true := by decide

theorem witness_StopAndTheEndOfStopping :
    (inMode .stopping).Listens ∧ (inMode .stopping).mode = .stopping ∧ (inMode .ready).Listens
    ∧ (inMode .ready).mode ≠ .running ∧ (inMode .ready).mode ≠ .stopping ∧ (inMode .running).Listens
    ∧ (inMode .running).NothingDue ∧ (inMode .running).NoVisitors ∧ (inMode .running).mode = .running
    ∧ ((∀ n, n ∈ [1, 2, 3, 4] → ((inMode .running).context n).phase = .free) ∧ (inMode .running).throwsGoOn = false
      ∧ (inMode .running).ttc.state.isMoving = false)
    ∧ ({ atWork .running with vpc := {} } : State).Listens ∧ ({ atWork .running with vpc := {} } : State).NoVisitors
    ∧ ({ atWork .running with vpc := {} } : State).ttc.state.isMoving ≠ false ∧ (inMode .stopping).NothingDue
    ∧ (inMode .stopping).NoVisitors ∧ (inMode .stopping).stoppingOver = true := by decide

theorem witness_WarmRestart :
    (stopped .halted).Listens ∧ (stopped .halted).mode = .halted ∧ (stopped .halted).lts.estop = true
    ∧ (inMode .configuring).Listens ∧ (inMode .configuring).mode = .configuring
    ∧ (atWork .running).Listens ∧ (atWork .running).mode = .running ∧ (atWork .running).NothingDue
    ∧ (atWork .running).hl.mask.getLsbD 0 = true ∧ (atWork .running).tables.turntable ≠ none
    ∧ (atWork .halted).mode = .halted ∧ (atWork .halted).lts.estop = false ∧ (storing .ready).Listens
    ∧ (storing .ready).mode = .ready ∧ (storing .ready).NothingDue ∧ (storing .ready).tables.turntable = none := by decide

/-- A running controller with RIE's records as given. -/
def railed (r : Rie) : State := { inMode .running with rie := r }

/-- The same with route `q` in a state. -/
def routed (q : Nat) (w : RouteWork) : State := railed { routes := [(q, w)] }

/-- District 1 belongs to desk 2. -/
def owned (s : State) : State := { s with dat := [(1, { owner := 2 })] }

/-- A route that holds track piece 1. -/
def lockedBy (q : Nat) : Rie := { locks := [(1, { holder := q })] }

theorem witness_RouteSetRefusalsAndWaiting :
    (inMode .ready).Listens ∧ (inMode .ready).mode ≠ .running ∧ (inMode .running).Listens
    ∧ ((0#8 : Byte).toNat < 1 ∧ 192 < (193#8 : Byte).toNat ∧ 8 < (9#8 : Byte).toNat)
    ∧ (192#8 : Byte).toNat ≤ 192 ∧ (8#8 : Byte).toNat ≤ 8
    ∧ (inMode .running).routeRec 191 = none ∧ (inMode .running).routeRec 192 ≠ none
    ∧ (2#8 : Byte).getLsbD 1 = true ∧ ((inMode .running).routeRec 2).map (·.cls) = some .shunt
    ∧ (routed 1 { state := .locked }).Listens ∧ ((routed 1 { state := .locked }).route 1).state ≠ .free
    ∧ (owned (inMode .running)).Listens ∧ (owned (inMode .running)).routeCheck (originOf 1) 1 = .noAuthority
    ∧ (railed (lockedBy 192)).Listens ∧ (railed (lockedBy 192)).routeCheck (originOf 0) 1 ≠ .noAuthority
    ∧ ((railed (lockedBy 192)).route 1).state = .free
    ∧ (railed (lockedBy 192)).conflict 1 (originOf 0) = some .sectionHeld ∧ (0#8 : Byte).getLsbD 0 = false
    ∧ (1#8 : Byte).getLsbD 0 = true
    ∧ 16 ≤ (railed { lockedBy 192 with heldQueue := List.replicate 16 2 }).rie.heldQueue.length
    ∧ (railed { lockedBy 192 with heldQueue := List.replicate 15 2 }).rie.heldQueue.length < 16
    ∧ (railed { lockedBy 192 with heldQueue := List.replicate 15 2 }).conflict 1 (originOf 0) = some .sectionHeld
    ∧ (railed { lockedBy 192 with heldQueue := List.replicate 15 2 }).NothingDue
    ∧ (railed { lockedBy 192 with heldQueue := List.replicate 15 2 }).NoVisitors := by decide

/-- An order of a throw to NORMAL in a phase. -/
def order (ph : Phase) : Order :=
  { lie := .normal, cause := .individual, requesters := [.origin .auto], phase := ph, placedAt := 0, takenAt := some 0,
    limitAt := some 9 }

/-- District 1 is under local release of desk 3. -/
def released : State := { inMode .running with dat := [(1, { releaseHolder := 3 })] }

/-- Each of the ten conflicts of R70 is the first of some state. -/
theorem test_conflicts :
    (({ released with lts := { released.lts with routeSets := [(1, [1])] } }).conflict 1 .auto = some .localRelease
      ∧ ({ inMode .running with ttc := { deckOwner := 1 } }).conflict 2 .auto = some .tableOwned
      ∧ (railed (lockedBy 192)).conflict 1 .auto = some .sectionHeld
      ∧ (railed { holders := [(1, [(192, .reverse)])] }).conflict 1 .auto = some .pointOtherLie
      ∧ ({ inMode .running with pts := { points := [(1, { order := some { order .sent with lie := .reverse } })] } }).conflict
          1 .auto = some .pointMoving
      ∧ (railed { holders := [(1, [(2, .normal), (3, .normal), (4, .normal), (5, .normal)])] }).conflict 1 .auto
          = some .holdersFull)
    ∧ ((railed { entryHolders := [(1, 192)] }).conflict 1 .auto = some .entryBusy
      ∧ (inMode .running).conflict 2 .auto = some .tableNotReady
      ∧ ({ inMode .running with ttc := { state := .moving } }).conflict 2 .auto = some .tableBusy
      ∧ (railed { contexts := [1, 2, 3, 4].map fun n => (n, { phase := .setting }) }).conflict 1 .auto = some .contextsFull
      ∧ (inMode .running).conflict 1 .auto = none) := by decide

/-- Point 1 lies NORMAL. -/
def lain (s : State) : State :=
  { s with
    pts := { points := [(1, { commanded := some .normal })] }
    flc := { points := [(1, { detected := .normal, lastReading := some .normal })] } }

/-- The deck faces road 1 with its first end. -/
def faced (s : State) : State :=
  { s with ttc := { state := .aligned, homed := true, face1 := 1, boltLevel := true } }

theorem witness_RouteSetLocksAtOnce :
    (lain (inMode .running)).Listens ∧ (lain (inMode .running)).Quiet ∧ (lain (inMode .running)).mode = .running
    ∧ ((lain (inMode .running)).route 1).state = .free
    ∧ (lain (inMode .running)).routeCheck (originOf 8) 1 ≠ .noAuthority
    ∧ (lain (inMode .running)).conflict 1 (originOf 8) = none
    ∧ (∃ r, (lain (inMode .running)).routeRec 1 = some r ∧ ((2#8 : Byte).getLsbD 1 = true → r.cls = .main)
      ∧ (∀ x ∈ r.reqs, (lain (inMode .running)).liesAt x.point x.lie = true) ∧ r.deck = none)
    ∧ (faced (inMode .running)).Listens ∧ (faced (inMode .running)).Quiet
    ∧ (faced (inMode .running)).conflict 2 (originOf 0) = none
    ∧ ∃ r, (faced (inMode .running)).routeRec 2 = some r ∧ r.reqs = []
      ∧ ∀ d, r.deck = some d → (faced (inMode .running)).ttc.alignedAt d.1 d.2 = true :=
  by and_intros <;> decide

/-- Node 2, the points', answers. -/
def answering (s : State) : State := { s with flc := { nodes := [(2, { state := .online })] } }

theorem witness_RouteSetOrdersItsThrows :
    (answering (inMode .running)).Listens ∧ (answering (inMode .running)).Quiet
    ∧ (answering (inMode .running)).mode = .running ∧ ((answering (inMode .running)).route 1).state = .free
    ∧ (answering (inMode .running)).routeCheck (originOf 0) 1 ≠ .noAuthority
    ∧ (answering (inMode .running)).conflict 1 (originOf 0) = none
    ∧ (answering (inMode .running)).freeContext = some 1
    ∧ ∃ r, (answering (inMode .running)).routeRec 1 = some r ∧ (r.reqs.map (·.point)).Nodup ∧ r.deck = none
      ∧ (∃ x ∈ r.reqs, (answering (inMode .running)).liesAt x.point x.lie = false)
      ∧ ∀ x ∈ r.reqs, ((answering (inMode .running)).pointNode x.point).isLost = false :=
  by and_intros <;> decide

/-- Context 1 sets route 1, with a journal, over points as given. -/
def contexted (j : List JournalEntry) (p : Pts) : State :=
  { answering (railed { routes := [(1, { state := .setting, context := 1 })]
                        locks := [(1, { holder := 1 }), (2, { holder := 1 }), (3, { holder := 1 })]
                        entryHolders := [(1, 1)]
                        contexts := [(1, { route := 1, phase := .setting, journal := j })] }) with pts := p }

/-- A throw of a point from one lie of its own to another, as context 1 orders it, and its entry in the journal. -/
def ordered (ph : Phase) : Order := { order ph with cause := .setting, requesters := [.context 1] }
def entryFor (p : Nat) : JournalEntry := { target := .point p .normal (some .reverse) }

/-- Route 1 waits, alone or before route 2, whose deck's track piece another route holds. -/
def inLine (l : List Nat) : State :=
  railed { routes := l.map fun q => (q, { state := .held, origin := some .auto }), heldQueue := l
           locks := [(4, { holder := 192 })] }

/-- Route 1 is LOCKED, its signal having shown a proceed aspect. -/
def shown1 : State := routed 1 { state := .locked, origin := some .auto, clearedOnce := true }

theorem witness_RouteCancelByState :
    ((inMode .ready).Listens ∧ (inMode .ready).railActive = false ∧ (inMode .running).railActive = true
      ∧ (inMode .running).Listens ∧ (inMode .running).routeRec 191 = none ∧ ((inMode .running).route 1).state = .free)
    ∧ ((owned (routed 1 { state := .locked })).Listens ∧ ((owned (routed 1 { state := .locked })).route 1).state ≠ .free
      ∧ originOf 1 ≠ .auto ∧ ((owned (routed 1 { state := .locked })).route 1).origin ≠ some (originOf 1)
      ∧ ∃ r, (owned (routed 1 { state := .locked })).routeRec 1 = some r
        ∧ (owned (routed 1 { state := .locked })).ownsEntry (originOf 1) r = false
        ∧ (owned (routed 1 { state := .locked })).ownsEntry (originOf 2) r = true)
    ∧ ((routed 1 { state := .inUse }).Listens ∧ ((routed 1 { state := .inUse }).route 1).forced = false)
    ∧ (∀ w ∈ [{ state := .approachLocked }, { state := .restoring }, ({ state := .inUse, forced := true } : RouteWork)],
      (routed 1 w).Listens ∧ (routed 1 w).Rested ∧ (routed 1 w).route 1 = w)
    ∧ (∀ l ∈ [[1], [1, 2]], (inLine l).Listens ∧ (inLine l).NothingDue ∧ (inLine l).NoVisitors
      ∧ (inLine l).mode = .running ∧ (inLine l).rie.heldQueue = l ∧ ((inLine l).route 1).forced = false
      ∧ ((inLine l).route 1).state = .held
      ∧ ∀ q ∈ (inLine l).rie.heldQueue, q ≠ 1 → ((inLine l).route q).state = .held
        ∧ (inLine l).routeCheck (((inLine l).route q).origin.getD .auto) q ≠ .noAuthority
        ∧ (inLine l).conflict q (((inLine l).route q).origin.getD .auto) ≠ none)
    ∧ ((contexted [entryFor 1] { points := [(1, { order := some (ordered .sent) })] }).Listens
      ∧ (contexted [entryFor 1] { points := [(1, { order := some (ordered .sent) })] }).Quiet
      ∧ ((contexted [entryFor 1] { points := [(1, { order := some (ordered .sent) })] }).route 1).state = .setting
      ∧ ((contexted [entryFor 1] { points := [(1, { order := some (ordered .sent) })] }).context 1).phase = .setting
      ∧ ((contexted [entryFor 1] { points := [(1, { order := some (ordered .sent) })] }).context 1).journal = [entryFor 1]
      ∧ ((contexted [entryFor 1] { points := [(1, { order := some (ordered .sent) })] }).point 1).order
        = some (ordered .sent)
      ∧ (ordered .sent).phase ≠ .waiting)
    ∧ (∀ w ∈ [{ state := .locked }, { state := .locked, fleet := true }, { state := .locked, fleet := true, passed := true },
        ({ state := .locked, origin := some .auto, clearedOnce := true } : RouteWork)],
      (routed 1 w).Listens ∧ (routed 1 w).Quiet ∧ (routed 1 w).route 1 = w)
    ∧ ∃ r, shown1.routeRec 1 = some r ∧ shown1.allClear r.approach = false ∧ r.approachTime ≠ 0 := by
  and_intros <;> decide

/-- Route 1 is LOCKED over clear track pieces. -/
def clearAhead : State :=
  { routed 1 { state := .locked } with
    flc := { tracks := [(1, { occupancy := .clear }), (2, { occupancy := .clear }), (3, { occupancy := .clear })] } }

theorem witness_RouteForceReleaseByState :
    ((inMode .ready).Listens ∧ (inMode .ready).railActive = false ∧ (inMode .running).Listens
      ∧ (inMode .running).railActive = true ∧ (inMode .running).routeRec 191 = none ∧ originOf 1 ≠ .auto
      ∧ ∃ r, (owned (routed 1 { state := .locked })).routeRec 1 = some r
        ∧ (owned (routed 1 { state := .locked })).ownsEntry (originOf 1) r = false
        ∧ (owned (routed 1 { state := .locked })).ownsEntry (originOf 2) r = true)
    ∧ (∀ w ∈ [{}, { state := .setting }, { state := .inUse }, ({ state := .approachLocked, forced := true } : RouteWork)],
      (routed 1 w).Listens ∧ (routed 1 w).Quiet ∧ (routed 1 w).Rested ∧ (routed 1 w).route 1 = w)
    ∧ (∃ r, (routed 1 { state := .inUse }).routeRec 1 = some r
      ∧ ∃ x ∈ r.path, (routed 1 { state := .inUse }).occupancy x ≠ .clear)
    ∧ (∃ r s, State.routeRec s 1 = some r ∧ s.Listens ∧ s.Quiet ∧ (s.route 1).state = .locked
      ∧ ∃ x ∈ r.overlap, x ∉ r.path ∧ (s.lock x).holder = 1 ∧ s.occupancy x ≠ .clear)
    ∧ (clearAhead.Listens ∧ clearAhead.Quiet ∧ (clearAhead.route 1).state = .locked
      ∧ ∃ r, clearAhead.routeRec 1 = some r ∧ clearAhead.allClear r.path = true ∧ clearAhead.allClear r.overlap = true) := by
  and_intros <;> first
    | decide
    | exact ⟨_, railed { routes := [(1, { state := .locked })], locks := [(3, { holder := 1 })] }, rfl, by decide⟩

/-- A running hold, a running approach timer and a running overlap timer. -/
def held1 : State := railed { routes := [(1, { state := .held, hold := .runs 9 })], heldQueue := [1] }
def approach1 : State := routed 1 { state := .approachLocked, approachTimer := some 9 }
def overlap1 : State := routed 1 { state := .inUse, overlapTimer := some 9, released := [1] }

theorem witness_RouteTimersExpire :
    (1 : Nat) ≠ 0 ∧ held1.inReset = false ∧ held1.routeRec 1 ≠ none ∧ held1.NothingDue ∧ held1.NoVisitors
    ∧ held1.mode ≠ .stopping ∧ (held1.route 1).state = .held ∧ (held1.route 1).hold = .runs 9
    ∧ held1.rie.heldQueue = [1]
    ∧ approach1.inReset = false ∧ approach1.Quiet ∧ (approach1.route 1).state = .approachLocked
    ∧ (approach1.route 1).approachTimer = some 9 ∧ (approach1.route 1).released = []
    ∧ (approach1.route 1).overlapReleased = false
    ∧ overlap1.inReset = false ∧ overlap1.Quiet ∧ (overlap1.route 1).overlapTimer = some 9
    ∧ overlap1.heldPositions 1 ≠ [] := by decide

/-- Occupied track pieces of node 1, whose next answer changes piece `k`, in a layout. -/
def crossing (t : Tables) (r : Rie) (occ : List Bool) (k : Nat) : State :=
  { lts := { tables := t, mode := .running }, rie := r
    flc := { nodes := [(1, { state := .online })]
             exchange := some { address := 1, sent := .detectOutput, windowAt := 9 }
             tracks := occ.zipIdx.map fun e =>
              (e.2 + 1, { occupancy := if e.1 then .occupied else .clear, count := if e.2 + 1 = k then 9 else 0,
                          firstPending := false }) } }

/-- The answer that changes piece `k`. -/
def newReadings (occ : List Bool) (k : Nat) : List Bool := occ.zipIdx.map fun e => if e.2 + 1 = k then !e.1 else e.1

def polled : Exchange := { address := 1, sent := .detectOutput, windowAt := 9 }

/-- A route over one track piece without an overlap time. -/
def short : Tables := { layout with routes := [(192, { entry := 2, exit := 0, path := [3], overlapTime := 0 })] }

/-- Route `q` in a state holds some track pieces. -/
def holding (q : Nat) (w : RouteWork) (l : List Nat) (marked : Bool := false) : Rie :=
  { routes := [(q, w)], locks := l.map fun k => (k, { holder := q, releaseOnClear := marked }) }

/-- What each case of a train's course is about: the answer changes piece `k`, which route `q` holds. -/
def crosses (t : Tables) (r : Rie) (occ : List Bool) (k q : Nat) : Bool :=
  decide ((crossing t r occ k).OneChange polled (newReadings occ k) k (if occ[k - 1]? = some true then .clear else .occupied)
    ∧ (crossing t r occ k).Quiet ∧ ((crossing t r occ k).lock k).holder = q ∧ (crossing t r occ k).railActive = true)

def empty : List Bool := [false, false, false, false, false]

theorem witness_TrainThroughARoute :
    (crosses layout {} empty 1 0
      ∧ crosses layout (holding 1 { state := .locked } [1, 2, 3]) empty 1 1
      ∧ (crossing layout (holding 1 { state := .locked } [1, 2, 3]) empty 1).pathPosition 1 1 = 1)
    ∧ (crosses layout (holding 192 { state := .approachLocked } [3]) empty 3 192
      ∧ crosses short (holding 192 { state := .locked } [3]) empty 3 192
      ∧ (crossing short (holding 192 { state := .locked } [3]) empty 3).pathPosition 192 3 = 1
      ∧ (∃ r, (crossing layout {} empty 3).routeRec 192 = some r ∧ r.path.tail = [] ∧ r.overlapTime ≠ 0)
      ∧ ∃ r, (crossing short {} empty 3).routeRec 192 = some r ∧ r.path.tail = [] ∧ r.overlapTime = 0)
    ∧ (crosses layout (holding 1 { state := .locked } [1, 2, 3]) empty 2 1
      ∧ (crossing layout (holding 1 { state := .locked } [1, 2, 3]) empty 2).pathPosition 1 2 = 2)
    ∧ (crosses layout (holding 1 { state := .inUse, seen := [1] } [1, 2, 3]) [true, false, false, false, false] 2 1
      ∧ crosses short (holding 192 { state := .inUse } [3]) empty 3 192
      ∧ crosses layout (holding 1 { state := .inUse, seen := [1] } [1, 2, 3]) [true, true, false, false, false] 1 1
      ∧ (crossing layout (holding 1 { state := .inUse, seen := [1] } [1, 2, 3]) [true, true, false, false, false]
          1).heldPositions 1 = [1, 2]
      ∧ crosses layout (holding 1 { state := .inUse, seen := [1, 2], released := [1] } [2, 3])
          [false, true, false, false, false] 2 1
      ∧ (crossing layout (holding 1 { state := .inUse, seen := [1, 2], released := [1] } [2, 3])
          [false, true, false, false, false] 2).heldPositions 1 = [2]
      ∧ crosses layout (holding 1 { state := .inUse } [1, 2, 3]) empty 3 1
      ∧ (crossing layout (holding 1 { state := .inUse } [1, 2, 3]) empty 3).pathPosition 1 3 = 0)
    ∧ (crosses layout (holding 1 { state := .locked, fleet := true } [1, 2, 3]) empty 1 1
      ∧ crosses layout (holding 1 { state := .locked, fleet := true, passed := true } [1, 2, 3])
          [false, true, false, false, false] 2 1
      ∧ crosses layout (holding 1 { state := .locked, fleet := true } [1, 2, 3]) empty 3 1)
    ∧ (crosses layout (holding 1 { state := .locked, forced := true } [1, 2, 3]) empty 1 1
      ∧ crosses layout (holding 1 { state := .locked, forced := true, overlapReleased := true } [1, 2] true)
          [true, false, false, false, false] 1 1
      ∧ crosses layout (holding 1 { state := .locked, forced := true, overlapReleased := true, released := [1] } [2] true)
          [false, true, false, false, false] 2 1
      ∧ (crossing layout (holding 1 { state := .locked, forced := true, overlapReleased := true, released := [1] } [2] true)
          [false, true, false, false, false] 2).heldPositions 1 = [2]) := by
  and_intros <;> decide

/-- A held request for route 1 that still conflicts, one without authority and one without a conflict. -/
def waits (r : Rie) : State := railed { r with routes := [(1, { state := .held, origin := some (.desk 1) })], heldQueue := [1] }

theorem witness_HeldRouteRescanExamines :
    (waits (lockedBy 192)).inReset = false ∧ (waits (lockedBy 192)).NothingDue ∧ (waits (lockedBy 192)).NoVisitors
    ∧ (waits (lockedBy 192)).mode = .running
    ∧ (∀ q ∈ (waits (lockedBy 192)).rie.heldQueue, ((waits (lockedBy 192)).route q).state = .held
      ∧ (waits (lockedBy 192)).routeCheck (((waits (lockedBy 192)).route q).origin.getD .auto) q ≠ .noAuthority
      ∧ (waits (lockedBy 192)).conflict q (((waits (lockedBy 192)).route q).origin.getD .auto) ≠ none)
    ∧ (owned (waits {})).NothingDue ∧ (owned (waits {})).rie.heldQueue = [1]
    ∧ (owned (waits {})).routeCheck (.desk 1) 1 = .noAuthority
    ∧ (lain (waits {})).NothingDue ∧ (lain (waits {})).NoVisitors ∧ (lain (waits {})).mode = .running
    ∧ (lain (waits {})).rie.heldQueue = [1] ∧ ((lain (waits {})).route 1).state = .held
    ∧ (lain (waits {})).routeCheck (.desk 1) 1 ≠ .noAuthority ∧ (lain (waits {})).conflict 1 (.desk 1) = none
    ∧ ∃ r, (lain (waits {})).routeRec 1 = some r ∧ r.deck = none
      ∧ ∀ x ∈ r.reqs, (lain (waits {})).liesAt x.point x.lie = true :=
  by and_intros <;> decide

/-- Context 1 of route 1 has drained, with a journal entry for point 1. -/
def drained (x : JournalOutcome) : State :=
  answering (railed
    { routes := [(1, { state := .restoring, context := 1 })]
      holders := [(1, [(1, .normal)])]
      contexts := [(1, { route := 1, phase := .draining,
                         journal := [{ target := .point 1 .normal (some .reverse), outcome := x }] })] })

theorem witness_RestoreUnwindsTheJournal :
    (drained .failed).inReset = false ∧ (drained .failed).Quiet ∧ (drained .failed).mode = .running
    ∧ ((drained .failed).context 1).phase = .draining ∧ ((drained .failed).context 1).route ≠ 0
    ∧ (drained .failed).routeRec 1 ≠ none ∧ (∀ e ∈ ((drained .failed).context 1).journal, e.outcome ≠ .pending)
    ∧ (∀ e ∈ ((drained .failed).context 1).journal,
      (drained .failed).restorable 1 e = none ∧ (e.isTable = true → e.outcome ≠ .aligned))
    ∧ ((drained .failed).route 1).released = [] ∧ ((drained .failed).route 1).overlapReleased = false
    ∧ (drained .complete).inReset = false ∧ (drained .complete).Quiet ∧ (drained .complete).mode = .running
    ∧ ((drained .complete).context 1).phase = .draining
    ∧ ((drained .complete).context 1).journal = [{ target := .point 1 .normal (some .reverse), outcome := .complete }]
    ∧ ((drained .complete).holders 1).all (fun h => h.1 == 1) = true ∧ ((drained .complete).point 1).order = none
    ∧ ((drained .complete).pointNode 1).isLost = false := by decide

/-- A running controller whose node 2 answers, with PTS's records as given. -/
def pointed (p : Pts) : State := { answering (inMode .running) with pts := p }

theorem witness_PointThrowCases :
    (inMode .ready).Listens ∧ (inMode .ready).mode ≠ .running ∧ (inMode .running).Listens
    ∧ ((0#8 : Byte).toNat < 1 ∧ 64 < (65#8 : Byte).toNat ∧ (3#8 : Byte).toNat ≠ 1 ∧ (3#8 : Byte).toNat ≠ 2
      ∧ 8 < (9#8 : Byte).toNat)
    ∧ lieOf 1 = some .normal ∧ (64#8 : Byte).toNat ≤ 64 ∧ (inMode .running).pointRec 64 = none
    ∧ (inMode .running).pointRec 1 ≠ none
    ∧ (owned (inMode .running)).Listens ∧ (owned (inMode .running)).pointCheck (originOf 1) 1 = .noAuthority
    ∧ released.Listens
    ∧ released.pointCheck (originOf 1) 1 = .localRelease
    ∧ (inMode .running).pointCheck (originOf 1) 1 = .pass
    ∧ (railed { holders := [(1, [(1, .normal)])] }).Listens ∧ (railed { holders := [(1, [(1, .normal)])] }).holders 1 ≠ []
    ∧ (pointed { points := [(1, { order := some (order .sent) })] }).Listens
    ∧ (pointed { points := [(1, { order := some (order .sent) })] }).holders 1 = []
    ∧ ((pointed { points := [(1, { order := some (order .sent) })] }).point 1).order ≠ none
    ∧ ((lain (inMode .running)).Listens ∧ (lain (inMode .running)).Rested ∧ ((lain (inMode .running)).point 1).order = none
    ∧ (lain (inMode .running)).liesAt 1 .normal = true
    ∧ (pointed {}).Listens ∧ (pointed {}).Quiet ∧ (pointed {}).liesAt 1 .normal = false
    ∧ ((pointed {}).pointNode 1).isLost = false
    ∧ (inMode .running).Quiet ∧ (inMode .running).liesAt 1 .normal = false
    ∧ ((inMode .running).pointNode 1).isLost = true) :=
  by and_intros <;> decide

/-- Point 1, a solenoid, is SENT in slot 1, and point 2, a motor, PROVING. -/
def thrown : State :=
  pointed { points := [(1, { order := some (order .sent), driveCommand := .pulse .normal 80, commandNumber := 7, lastNumber := 7 }),
                       (2, { order := some (order .proving), driveCommand := .run .normal, commandNumber := 255,
                             lastNumber := 255 })]
            slots := [(1, .busy 1 none), (2, .busy 2 none)] }

theorem witness_ThrowLimitFailsTheOrder :
    thrown.inReset = false ∧ thrown.Quiet ∧ thrown.pointRec 1 ≠ none ∧ (thrown.point 1).order = some (order .sent)
    ∧ (order .sent).phase ≠ .waiting ∧ (order .sent).limitAt = some 9
    ∧ (∀ q ∈ (order .sent).requesters, ∃ d, q = .origin d) ∧ (order .sent).phase = .sent
    ∧ (thrown.pointRec 1).map (·.driveKind) = some .solenoid ∧ thrown.slot 1 = .busy 1 none
    ∧ (thrown.point 2).order = some (order .proving) ∧ (order .proving).phase ≠ .waiting
    ∧ (∀ q ∈ (order .proving).requesters, ∃ d, q = .origin d)
    ∧ (thrown.pointRec 2).map (·.driveKind) = some .motor ∧ (thrown.point 2).lastNumber = 255 := by
  and_intros <;> first | decide | exact fun q h => ⟨.auto, by simpa [order] using h⟩

/-- Both slots are busy, slot 1 until 9, and an order waits for point 2, whose number stands at 255. -/
def slotted (queue : List Nat) (w : Slot) : State :=
  pointed { points := [(2, { order := some (order .waiting), lastNumber := 255 })], queue := queue
            slots := [(1, w), (2, .busy 1 none)] }

theorem witness_SlotsTakeTheOldestOrder :
    (slotted [] (.busy 1 (some 9))).inReset = false ∧ (slotted [] (.busy 1 (some 9))).Rested
    ∧ (slotted [] (.busy 1 (some 9))).slot 1 = .busy 1 (some 9) ∧ (slotted [] (.busy 1 (some 9))).eligibleOrder = none
    ∧ (slotted [2] (.busy 1 (some 9))).Rested ∧ (slotted [2] (.busy 1 (some 9))).slot 1 = .busy 1 (some 9)
    ∧ (slotted [2] (.busy 1 (some 9))).general.driveBudget = 2 ∧ (slotted [2] (.busy 1 (some 9))).slot 2 ≠ .free
    ∧ (slotted [2] (.busy 1 (some 9))).eligibleOrder = some 2 ∧ (slotted [2] (.busy 1 (some 9))).pointRec 2 ≠ none
    ∧ ((slotted [2] (.busy 1 (some 9))).point 2).order = some (order .waiting)
    ∧ (slotted [2] (.busy 1 (some 9))).mode ≠ .stopping
    ∧ (slotted [2] .free).inReset = false ∧ (slotted [2] .free).Rested ∧ (slotted [2] .free).freeSlot = some 1
    ∧ (slotted [2] .free).eligibleOrder = some 2
    ∧ ((slotted [2] .free).point 2).order = some (order .waiting) := by decide

/-- Route 192 is LOCKED beyond signal 2 over a clear track piece. -/
def proceeding : State :=
  { inMode .running with
    rie := { routes := [(192, { state := .locked })], entryHolders := [(2, 192)] }
    flc := { nodes := [(3, { state := .online })], tracks := [(3, { occupancy := .clear })] } }

theorem witness_ProceedAspectNeedsItsConditions : proceeding.aspectOf 2 ≠ .danger := by decide

/-- Route 192 is LOCKED beyond signal 2, its record and the signal's as given, and route 1 before it. -/
def signalled (rt : RouteRec) (r : SignalRec) (occ : Occupancy) : State :=
  { lts := { tables := { layout with signals := [(1, { district := 1, headNode := 3, head := 1 }), (2, r)]
                                     routes := [(1, { entry := 1, exit := 2, path := [1, 2] }), (192, rt)] },
             mode := .running }
    rie := { routes := [(1, { state := .locked }), (192, { state := .locked })], entryHolders := [(1, 1), (2, 192)] }
    flc := { nodes := [(3, { state := .online })]
             tracks := [(3, { occupancy := .clear }), (4, { occupancy := occ })] } }

theorem signalled_mayProceed (c : RouteClass) (x : Nat) (r : SignalRec) (occ : Occupancy) (h : r.headNode = 3) :
    (signalled { cls := c, entry := 2, exit := x, path := [3, 4] } r occ).MayProceed 2
      { cls := c, entry := 2, exit := x, path := [3, 4] } r where
  held := by show (192 : Nat) ≠ 0; decide
  route := rfl
  present := rfl
  mode := rfl
  estop := rfl
  locked := rfl
  lies := fun _ h => by cases h
  deck := fun _ h => by cases h
  reminder := rfl
  forced := rfl
  fleet := fun h => by cases h
  node := by rw [h]; exact .inl rfl

/-- Signal 2 over a route of a class that ends at a buffer. -/
def facing (c : RouteClass) (occ : Occupancy) : State :=
  signalled { cls := c, entry := 2, exit := 0, path := [3, 4] } { district := 1, headNode := 3, head := 2 } occ

theorem witness_AspectRules :
    (∀ rt r, ¬ (inMode .ready).MayProceed 2 rt r)
    ∧ (∀ c x k occ, ∃ rt r, (signalled { cls := c, entry := 2, exit := x, path := [3, 4] }
        { district := 1, headNode := 3, head := 2, kind := k } occ).MayProceed 2 rt r
        ∧ rt.cls = c ∧ rt.exit = x ∧ rt.path = [3, 4] ∧ r.kind = k)
    ∧ ((facing .main .clear).occupancy 4 = .clear ∧ (facing .main .occupied).occupancy 4 = .occupied
      ∧ (facing .main .clear).occupancy 3 = .clear)
    ∧ (({ inMode .ready with sau := [(1, { effective := .caution, redOut := false })] } : State).signal 1).effective
      = .caution
    ∧ (((facing .main .clear).signal 2).commanded = .danger
      ∧ ({ (facing .main .clear).signal 2 with commanded := (facing .main .clear).aspectOf 2 } : SignalWork).proved .awaited
        ≠ (facing .main .clear).signal 2
      ∧ ({ (inMode .ready).signal 2 with commanded := (inMode .ready).aspectOf 2 } : SignalWork).proved .unknown
        = (inMode .ready).signal 2)
    ∧ (1 ∈ (deriveOne false 2 ((facing .main .occupied).setProving 2 .proven)).rearSignals 2
      ∧ ((deriveOne false 2 ((facing .main .occupied).setProving 2 .proven)).signal 2).redOut
        ≠ ((facing .main .occupied).signal 2).redOut
      ∧ (∀ y ∈ (deriveOne false 2 ((facing .main .occupied).setProving 2 .proven)).rearSignals 2,
        (deriveOne false 2 ((facing .main .occupied).setProving 2 .proven)).rearSignals y = [])
      ∧ ((deriveOne false 2 ((facing .main .occupied).setProving 2 .unknown)).signal 2).redOut
        = ((facing .main .occupied).signal 2).redOut
      ∧ ((deriveOne false 2 ((facing .main .occupied).setProving 2 .unknown)).signal 2).effective
        = ((facing .main .occupied).signal 2).effective) := by
  refine ⟨fun _ _ h => absurd h.mode (by decide), fun c x k occ => ⟨_, _, signalled_mayProceed c x _ occ rfl, rfl, rfl, rfl,
    rfl⟩, ?_⟩
  decide

theorem test_call_on_needs_its_last_piece_occupied :
    (facing .callOn .occupied).aspectOf 2 = .callOn ∧ (facing .callOn .clear).aspectOf 2 = .danger
    ∧ (facing .main .clear).aspectOf 2 = .caution ∧ (facing .shunt .occupied).aspectOf 2 = .shunt := by decide

theorem witness_SignalReminderCases :
    (inMode .configuring).Listens ∧ (inMode .configuring).loopRuns = false ∧ (inMode .running).Listens
    ∧ (inMode .running).loopRuns = true
    ∧ ((0#8 : Byte).toNat < 1 ∧ 64 < (65#8 : Byte).toNat ∧ 1 < (2#8 : Byte).toNat ∧ 8 < (9#8 : Byte).toNat)
    ∧ (inMode .running).signalRec 64 = none ∧ (inMode .running).signalRec 1 ≠ none
    ∧ (owned (inMode .running)).Listens ∧ (owned (inMode .running)).districtCheck (originOf 1) 1 = .noAuthority
    ∧ released.districtCheck (originOf 1) 1 = .localRelease
    ∧ (inMode .running).districtCheck (originOf 1) 1 = .pass ∧ ((inMode .running).signal 1).reminder = decide ((0#8 : Byte).toNat = 1)
    ∧ (inMode .running).Quiet ∧ ((inMode .running).signal 1).reminder ≠ decide ((1#8 : Byte).toNat = 1) := by decide

theorem witness_AccessChecksRule :
    (({ dat := [(1, { releaseHolder := 3 })] } : State).district 1).releaseHolder ≠ 0
    ∧ ((inMode .running).district 1).releaseHolder = 0 ∧ (inMode .running).pointRec 1 ≠ none := by decide

/-- A running controller with a turntable of a record, in a state, over a clear deck. -/
def turning (r : TurntableRec) (t : Ttc) : State :=
  { lts := { tables := { layout with turntable := some r }, mode := .running }, ttc := t
    flc := { tracks := [(4, { occupancy := .clear })] } }

theorem witness_DistrictCommands :
    (inMode .configuring).Listens ∧ (inMode .configuring).loopRuns = false ∧ (inMode .running).Listens
    ∧ (inMode .running).Quiet ∧ (inMode .running).loopRuns = true ∧ (1#8 : Byte).toNat ≠ 0
    ∧ ((0#8 : Byte).toNat < 1 ∧ 8 < (9#8 : Byte).toNat ∧ 1 < (2#8 : Byte).toNat ∧ 2 < (3#8 : Byte).toNat)
    ∧ yesNoOf 0 = some false ∧ visitorClassOf 0 = some .closed
    ∧ (((inMode .running).district 8).owner = (0#8 : Byte).toNat ∧ ((inMode .running).district 8).shared = false
      ∧ ((inMode .running).district 8).visitorClass = .closed)
    ∧ ¬ (((inMode .running).district 8).owner = (8#8 : Byte).toNat ∧ ((inMode .running).district 8).shared = false
      ∧ ((inMode .running).district 8).visitorClass = .closed)
    ∧ (inMode .halted).Listens ∧ (inMode .halted).mode ≠ .ready ∧ (inMode .halted).mode ≠ .running
    ∧ released.Listens ∧ released.Quiet ∧ (released.district 1).releaseHolder = 3
    ∧ ((owned (inMode .running)).district 1).base (.desk 1) = false
    ∧ ((inMode .running).district 1).releaseHolder = 0 ∧ ((inMode .running).district 1).base (.desk 1) = true
    ∧ (inMode .running).Rested ∧ takeRefusal 1 1 (inMode .running) = none
    ∧ (takeRefusal 1 1 (routed 1 { state := .restoring }) = some .busy ∧ takeRefusal 1 1 (routed 1 { state := .inUse }) = some .held
      ∧ takeRefusal 1 1 thrown = some .busy ∧ takeRefusal 1 1 (turning deck { state := .bolting }) = some .busy
      ∧ takeRefusal 1 1 { lts := { mode := .running, scriptSets := [(1, [1])] }, vpc := { runner := { script := 1 } } }
        = some .busy)
    ∧ (giveBackRefusal 1 .auto { thrown with dat := released.dat } = some .busy
      ∧ giveBackRefusal 1 .auto { turning deck { state := .bolting } with dat := released.dat } = some .busy
      ∧ giveBackRefusal 1 .auto released = some .pointsNotDetected)
    ∧ ((3#8 : Byte).toNat ≤ 8 ∧ 8 < (9#8 : Byte).toNat)
    ∧ (∃ t : State, t.Listens ∧ t.Quiet ∧ t.mode = .ready ∧ (t.district 1).releaseHolder = (3#8 : Byte).toNat
      ∧ (t.pointsIn 1).any t.hasOrder = false ∧ t.deckTurnsIn 1 = false ∧ (t.pointsIn 1).any t.undetected = false) := by
  and_intros <;> first | decide | exact ⟨{ lts := { mode := .ready }, dat := [(1, { releaseHolder := 3 })] }, by decide⟩

/-- A train stands on track piece 1, heading for its end B, and track piece 2 is occupied. -/
def train : TrainWork :=
  { code := [0x41#8], cls := .passenger, footprint := [(1, .b)], shown := true, origin := .auto }
def trained : State :=
  { inMode .running with
    flc := { tracks := [(1, { occupancy := .occupied }), (2, { occupancy := .occupied })] }
    td := { trains := [(1, train)] } }

/-- All 32 positions hold records. -/
def crowded : State :=
  { trained with td := { trains := ((List.range 32).map (· + 1)).map fun n => (n, { train with code := [0x43#8] }) } }

theorem witness_TrainCommands :
    (inMode .configuring).Listens ∧ (inMode .configuring).loopRuns = false ∧ trained.Listens ∧ trained.loopRuns = true
    ∧ trainCodeOf [0, 0, 0, 0, 0, 0] = none ∧ 8 < (9#8 : Byte).toNat
    ∧ trainCodeOf [0x62#8, 0, 0, 0, 0, 0] = some [0x42#8] ∧ trackEndOf 1 = some .b ∧ trainClassOf 3 = some .visitor
    ∧ yesNoOf 1 = some true ∧ (trained.trackRec 1).map (·.district) = some 1
    ∧ trained.districtCheck (originOf 8) 1 = .pass ∧ trained.occupancy 3 ≠ .occupied ∧ trained.trackRec 3 ≠ none
    ∧ trained.occupancy 1 = .occupied ∧ trained.trainHolding 1 ≠ none ∧ trained.Quiet
    ∧ trained.occupancy 2 = .occupied ∧ trained.trainHolding 2 = none ∧ trained.trainCoded [0x42#8] = none
    ∧ (trackEndOf 2 = none ∧ trainClassOf 4 = none ∧ yesNoOf 2 = none ∧ (0#8 : Byte).toNat < 1 ∧ 128 < (129#8 : Byte).toNat
      ∧ trained.trackRec 128 = none ∧ ({ owned trained with td := trained.td }).districtCheck (originOf 1) 1 = .noAuthority
      ∧ ({ trained with dat := released.dat }).districtCheck (originOf 1) 1 = .localRelease
      ∧ originOf 1 ≠ train.origin ∧ (owned trained).trainDistrict train = 1)
    ∧ (trained.trainHolding 2 = none ∧ trained.trainCoded train.code = some 1 ∧ train.isLost = false
      ∧ ({ train with footprint := [], lastTrack := 1 } : TrainWork).isLost = true
      ∧ ({ trained with td := { trains := [(1, { train with footprint := [], lastTrack := 1 })] } }).trainHolding 1 = none
      ∧ ({ trained with td := { trains := [(1, { train with footprint := [], lastTrack := 1 })] } }).Quiet
      ∧ (∀ n, 1 ≤ n → n ≤ 32 → crowded.td.trains.get? n ≠ none) ∧ crowded.trainHolding 2 = none
      ∧ crowded.trainCoded [0x42#8] = none)
    ∧ (trained.td.trains.get? 2 = none ∧ ∀ m, 1 ≤ m → m < 2 → trained.td.trains.get? m ≠ none)
    ∧ trained.freePosition = some 2 ∧ trainCodeOf [0x41#8, 0, 0, 0, 0, 0] = some [0x41#8]
    ∧ trained.trainCoded [0x41#8] = some 1 ∧ trained.td.trains.get? 1 = some train := by
  and_intros <;> first
    | decide
    | exact fun n h k => (by decide : ∀ n ≤ 32, 1 ≤ n → crowded.td.trains.get? n ≠ none) n k h
    | exact fun n h k => (by decide : ∀ n < 2, 1 ≤ n → trained.td.trains.get? n ≠ none) n k h

/-- A train of three track pieces, heading for the end B of piece 3, and one of its head alone. -/
def longTrain : TrainWork := { train with footprint := [(3, .b), (2, .b), (1, .b)] }

/-- Track piece 2 has just been occupied beside a train on piece 1, or two on pieces 1 and 3, each heading for an end. -/
def beside (l : List (Nat × TrackEnd)) : State :=
  { trained with td := { trains := l.map fun e => (e.1, { train with code := [BitVec.ofNat 8 (0x41 + e.1)], footprint := [e] }) } }

theorem witness_TrainsStepAndClear :
    (crosses layout {} empty 1 0 ∧ crosses layout {} [true, false, false, false, false] 1 0)
    ∧ ((beside [(1, .b)]).td.trains.get? 1 ≠ none ∧ train.direction = some .b
      ∧ (beside [(1, .b)]).trainHolding 2 = none ∧ (beside [(1, .b)]).candidates 2 1 = [1])
    ∧ ((beside [(1, .a)]).trainHolding 2 = none ∧ (beside [(1, .a)]).candidates 2 1 = []
      ∧ (beside [(1, .a)]).candidates 2 2 = [1])
    ∧ ((beside []).candidates 2 1 = [] ∧ (beside []).candidates 2 2 = [])
    ∧ ((beside [(1, .b), (3, .a)]).candidates 2 1 = [1, 3] ∧ (beside [(1, .b), (3, .a)]).trainHolding 2 = none
      ∧ (beside [(1, .a), (3, .b)]).candidates 2 1 = [] ∧ (beside [(1, .a), (3, .b)]).candidates 2 2 = [1, 3])
    ∧ Occupancy.unknown ≠ .clear
    ∧ ((trained.trackRec 1).map (fun r => r.link .b) = some (.track 2)
      ∧ (trained.trackRec 2).map (fun r => r.endA.names 1) = some true
      ∧ (trained.trackRec 5).map (fun r => r.link .a) = some (.table 0)
      ∧ (trained.trackRec 4).map (fun r => (r.link .a, r.endB)) = some (.table 1, .table 2))
    ∧ (trained.trainHolding 3 = none ∧ trained.trainHolding 1 = some 1 ∧ train.head = 1
      ∧ train.footprint.tail.filter (fun e => e.1 != 1) = []
      ∧ longTrain.head ≠ 2 ∧ longTrain.head = 3 ∧ longTrain.footprint.tail.filter (fun e => e.1 != 3) = [(2, .b), (1, .b)]) := by
  decide

theorem witness_RecordQueriesReport :
    (inMode .running).Listens ∧ (inMode .running).signalRec 2 ≠ none ∧ (inMode .running).signalRec 64 = none
    ∧ 64 < (65#8 : Byte).toNat ∧ 31 < (32#8 : Byte).toNat ∧ (31#8 : Byte).toNat ≤ 31 := by decide

theorem witness_BlockQueriesReport :
    (State.reset.inReset = false ∧ State.reset.hl.inService = none)
    ∧ trained.Listens ∧ 32 < (33#8 : Byte).toNat ∧ trained.trainCoded [0x5A#8] = none
    ∧ trainCodeOf [0x5A#8, 0, 0, 0, 0, 0] = some [0x5A#8] ∧ trained.td.trains.get? 32 = none ∧ trained.td.trains.get? 1 = some train
    ∧ trainCodeOf [0] = none ∧ trainCodeOf [0x61#8, 0, 0, 0, 0, 0] = some [0x41#8]
    ∧ trained.trainCoded [0x41#8] = some 1 ∧ trained.tables.turntable ≠ none
    ∧ State.Listens { lts := { mode := .ready } } ∧ State.reset.tables.turntable = none := by decide

theorem witness_ShortWayRule :
    0 < deck.turn ∧ (5 : Int) = ((5 : Nat) - (0 : Nat) : Int) % deck.turn ∧ 2 * (5 : Int) < deck.turn
    ∧ (6399 : Int) = ((6399 : Nat) - (0 : Nat) : Int) % deck.turn ∧ (deck.turn : Int) < 2 * 6399
    ∧ (3200 : Int) = ((3200 : Nat) - (0 : Nat) : Int) % deck.turn ∧ 2 * (3200 : Int) = deck.turn := by decide

theorem witness_PlansReachTheirTarget :
    0 < deck.turn ∧ (4900 : Nat) < deck.turn ∧ deck.planTo 0 0 4900 = some [-1524, 24] ∧ 0 < deck.backlash
    ∧ 0 < ({ deck with windingLimit := 7000 } : TurntableRec).windingLimit
    ∧ ({ deck with windingLimit := 7000 } : TurntableRec).planTo 0 0 4900 = some [-1524, 24] ∧ 23 < 24
    ∧ (deck.shortWay 0 4900 = -1500 ∧ ({ deck with windingLimit := 7000 } : TurntableRec).windingLimit ≠ 0
      ∧ ¬ (-(7000 : Int) ≤ -6000 + -1500 - 24 ∧ -6000 + -1500 - 24 ≤ (7000 : Int))
      ∧ (-(7000 : Int) ≤ -6000 + 4900 ∧ -6000 + 4900 ≤ (7000 : Int))
      ∧ ({ deck with windingLimit := 7000 } : TurntableRec).planTo 0 (-6000) 4900 = some [4900]
      ∧ ¬ (-(1 : Int) ≤ 0 + -1500 - 24 ∧ 0 + -1500 - 24 ≤ (1 : Int)) ∧ ¬ (-(1 : Int) ≤ 0 + 4900 ∧ 0 + 4900 ≤ (1 : Int))
      ∧ ({ deck with windingLimit := 1 } : TurntableRec).planTo 0 0 4900 = none)
    ∧ (11 = min 11 (24 - 1 - 11) ∧ 11 < deck.rampSteps ∧ deck.startRate ≤ deck.topRate ∧ 2 * 11 + 2 ≤ 24
      ∧ ({ deck with rampSteps := 0 } : TurntableRec).rampSteps ≤ 11) := by decide

/-- The deck without a bolt, and with a winding limit. -/
def boltless : TurntableRec := { deck with boltPresent := false, boltLimit := none }
def tight : TurntableRec := { deck with windingLimit := 1 }

/-- An occupied deck beside an occupied road. -/
def overhung : State :=
  { turning deck { state := .aligned, homed := true, face1 := 1 } with
    flc := { tracks := [(4, { occupancy := .occupied }), (5, { occupancy := .occupied })] } }

def still : Ttc := { state := .stopped, homed := true, boltLevel := true }

/-- A desk's request for the turntable: district 1 belongs to desk 2, or is under local release of desk 3. -/
def tableOwned : State := owned (turning deck still)
def tableReleased : State := { turning deck still with dat := [(1, { releaseHolder := 3 })] }

/-- A turntable that needs no time to settle. -/
def quick (bolt : Bool) : TurntableRec :=
  { deck with settleMs := 0, boltPresent := bolt, boltLimit := if bolt then some 10 else none }

theorem witness_TableHomeAndMoveStart :
    (State.Listens { lts := { mode := .ready } } ∧ ({ lts := { mode := .ready } } : State).tables.turntable = none)
    ∧ ((inMode .ready).Listens ∧ (inMode .ready).tables.turntable ≠ none ∧ (inMode .ready).mode ≠ .running)
    ∧ (tableOwned.Listens ∧ tableOwned.tables.turntable ≠ none ∧ tableOwned.mode = .running
      ∧ tableOwned.districtCheck (originOf 1) tableOwned.deckDistrict = .noAuthority
      ∧ tableReleased.Listens ∧ tableReleased.tables.turntable ≠ none ∧ tableReleased.mode = .running
      ∧ tableReleased.districtCheck (originOf 1) tableReleased.deckDistrict = .localRelease)
    ∧ ((0#8 : Byte).toNat < 1 ∧ 24 < (25#8 : Byte).toNat ∧ 3 < (4#8 : Byte).toNat ∧ 8 < (9#8 : Byte).toNat
      ∧ (24#8 : Byte).toNat ≤ 24 ∧ (3#8 : Byte).toNat ≤ 3 ∧ deckEndOf 1 = some .end1)
    ∧ (∀ t ∈ [{ state := .moving }, { deckOwner := 2 }, { state := .fault }, ({} : Ttc)],
      (turning deck t).Listens ∧ (turning deck t).TableOpen 8 deck ∧ (turning deck t).ttc = t)
    ∧ ((inMode .running).TableOpen 0 deck ∧ (inMode .running).ttc.deckOwner = 0
      ∧ (inMode .running).deckOccupancy = .unknown
      ∧ ({ inMode .running with ttc := still } : State).TableOpen 0 deck
      ∧ ({ inMode .running with ttc := still } : State).facesAlready 24 .end1 .end1 = false
      ∧ ({ inMode .running with ttc := still } : State).deckOccupancy = .unknown)
    ∧ (overhung.Listens ∧ overhung.TableOpen 0 deck ∧ overhung.deckOccupancy ≠ .unknown ∧ overhung.overhangs = true
      ∧ overhung.facesAlready 24 .end1 .end1 = false ∧ overhung.ttc.state = .aligned)
    ∧ ((turning deck {}).Quiet ∧ (turning deck {}).deckOccupancy ≠ .unknown ∧ (turning deck {}).overhangs = false
      ∧ (turning deck {}).ttc.boltLevel = false ∧ deck.boltPresent = true ∧ still.boltLevel = true)
    ∧ ((turning deck still).tables.roads.get? 2 = none
      ∧ (turning deck still).tables.roads.get? 24 = some { position := 400, track := 5, endsAllowed := .end1 }
      ∧ Tables.askedAdmitted .end2 .end1 = false ∧ Tables.askedAdmitted .end1 .end1 = true)
    ∧ (overhung.Rested ∧ overhung.tables.roads.get? 1 = some { position := 0, track := 5 }
      ∧ Tables.askedAdmitted .end1 .both = true ∧ overhung.facesAlready 1 .both .end1 = true)
    ∧ (∀ r ∈ [deck, tight, boltless, quick true, quick false], ∀ p ∈ [0, 1599, 1600], ∀ b ∈ [false, true],
      (turning r { still with p, boltLevel := b }).Listens ∧ (turning r { still with p, boltLevel := b }).Quiet
      ∧ (turning r { still with p, boltLevel := b }).TableOpen 0 r
      ∧ (turning r { still with p, boltLevel := b }).facesAlready 24 .end1 .end1 = false
      ∧ (turning r { still with p, boltLevel := b }).deckOccupancy ≠ .unknown
      ∧ (turning r { still with p, boltLevel := b }).overhangs = false
      ∧ r.chooseEnd p ((turning r still).tables.roadPos { position := 400, track := 5, endsAllowed := .end1 }) .end1 .end1
        = .end1
      ∧ r.target ((turning r still).tables.roadPos { position := 400, track := 5, endsAllowed := .end1 }) .end1 = 1600)
    ∧ (deck.planTo 0 0 1600 = some [1600] ∧ tight.planTo 0 0 1600 = none ∧ boltless.planTo 0 0 1600 = some [1600]
      ∧ deck.planTo 1599 0 1600 = some [1] ∧ (quick true).planTo 1599 0 1600 = some [1]
      ∧ (quick false).planTo 1599 0 1600 = some [1] ∧ deck.planTo 1600 0 1600 = some []
      ∧ (quick true).planTo 1600 0 1600 = some [] ∧ (quick false).planTo 1600 0 1600 = some []
      ∧ 0 < deck.settleMs ∧ (quick true).settleMs = 0) := by
  and_intros <;> decide

/-- A move from the host, in its first leg, its next step due at 9. -/
def move (stop : Bool) (rate : Option Nat) : Move :=
  { road := 1, deckEnd := .end1, origin := .auto, context := 0, legs := [-1524, 24], stepIndex := 300, stopPending := stop,
    lastRate := rate }
def inMove (st : TtcState) (m : Move) (bolt : Bool := false) : Ttc :=
  { state := st, homed := true, move := some m, boltLevel := bolt, stepAt := some 9, boltAt := some 9, settleAt := some 9 }

theorem ownMove (r : TurntableRec) (st : TtcState) (m : Move) (b : Bool) (h : m.context = 0) :
    (turning r (inMove st m b)).OwnMove := fun _ e => by cases e; exact h

theorem witness_TableStopAndHaltByState :
    (State.Listens { lts := { mode := .ready } } ∧ ({ lts := { mode := .ready } } : State).tables.turntable = none
      ∧ (inMode .ready).Listens ∧ (inMode .ready).tables.turntable ≠ none ∧ (inMode .ready).railActive = false)
    ∧ (tableOwned.railActive = true
      ∧ tableOwned.districtCheck (originOf 1) tableOwned.deckDistrict = .noAuthority
      ∧ tableReleased.railActive = true
      ∧ tableReleased.districtCheck (originOf 1) tableReleased.deckDistrict = .localRelease)
    ∧ (∀ st ∈ [TtcState.moving, .unbolting, .settling, .bolting], ∀ m ∈ [move false (some 400), move true (some 401), move true none],
      ∀ b ∈ [false, true],
      (turning deck (inMove st m b)).Listens ∧ (turning deck (inMove st m b)).Quiet
      ∧ (turning deck (inMove st m b)).TableOpen 0 deck ∧ (turning deck (inMove st m b)).ttc.state = st
      ∧ (turning deck (inMove st m b)).ttc.move = some m ∧ (turning deck (inMove st m b)).ttc.boltLevel = b)
    ∧ (∀ st m b, m.context = 0 → (turning deck (inMove st m b)).OwnMove)
    ∧ ((move false (some 400)).stopPending = false ∧ (move true (some 401)).stopPending = true
      ∧ (move true (some 401)).lastRate = some 401 ∧ deck.startRate < 401 ∧ 400 ≤ deck.startRate
      ∧ (move true none).context = 0 ∧ (move true none).lastRate = none)
    ∧ (∀ t ∈ [{ state := .homing, homePhase := some .search, stepAt := some 9 }, still],
      (turning deck t).Quiet ∧ (turning deck t).TableOpen 0 deck ∧ (turning deck t).ttc = t ∧ t.move = none)
    ∧ still.state.isMoving = false := by
  and_intros <;> first | decide | exact ownMove deck

/-- A homing in a phase after some steps of it. -/
def homing (ph : HomePhase) (steps tries : Nat) : Ttc :=
  { state := .homing, homePhase := some ph, homeStep := steps, attempts := tries, stepAt := some 9, boltAt := some 9 }

theorem witness_TurntableSteps :
    (7998 + 1 < deck.turn + deck.turn / 4 ∧ deck.turn + deck.turn / 4 ≤ 7999 + 1 ∧ 1 + 1 < deck.homeAttempts
      ∧ deck.homeAttempts ≤ 2 + 1 ∧ deck.turn / 8 ≤ 799 + 1 ∧ 798 + 1 < deck.turn / 8)
    ∧ (∀ t ∈ [homing .backoff 798 1, homing .search 7998 0, homing .search 7999 1, homing .search 7999 2, homing .backoff 799 1],
      (turning deck t).inReset = false ∧ (turning deck t).Quiet ∧ (turning deck t).tables.turntable = some deck
      ∧ t.stepAt = some 9)
    ∧ (turning deck (homing .search 7999 2)).OwnMove
    ∧ (∀ m ∈ [move false none, { move false none with stepIndex := 1523 }, { move true none with stepIndex := 1523 },
        { move false none with leg := 2, stepIndex := 23 }],
      (turning deck (inMove .moving m)).Quiet ∧ (turning deck (inMove .moving m)).ttc.move = some m
      ∧ (turning (quick false) (inMove .moving m)).Quiet ∧ m.context = 0)
    ∧ ((Ttc.currentLeg (move false none)).natAbs = 1524 ∧ (move false none).stepIndex + 1 < 1524
      ∧ 1524 ≤ 1523 + 1 ∧ (move false none).leg < (move false none).legs.length
      ∧ (Ttc.currentLeg { move false none with leg := 2, stepIndex := 23 }).natAbs = 24 ∧ 24 ≤ 23 + 1
      ∧ ({ move false none with leg := 2, stepIndex := 23 } : Move).legs.length ≤ 2 ∧ 0 < deck.settleMs
      ∧ (quick false).settleMs = 0 ∧ (quick false).boltPresent = false)
    ∧ (Ttc.currentLeg (move false none) < 0
      ∧ ({ inMove .moving (move false none) with a := -2147483648 } : Ttc).a - 1 < -2147483648
      ∧ ¬ (({ inMove .moving (move false none) with a := -2147483647 } : Ttc).a - 1 < -2147483648)
      ∧ (turning deck { inMove .moving (move false none) with a := -2147483648 }).Quiet) := by
  and_intros <;> first | decide | exact fun _ h => (by cases h)

/-- The last leg of a move, forwards. -/
def onward : Move := { move false none with leg := 2, stepIndex := 3 }

/-- The same with two steps of the leg left. -/
def spent (stop replan : Bool) : Move :=
  { move stop none with legs := [24], stepIndex := 22, replanUsed := replan }

/-- The same on the way to the second road. -/
def astray : Move := { spent false false with road := 24 }

theorem witness_IndexBoltAndTimers :
    ((turning deck (homing .search 0 0)).inReset = false ∧ (turning deck (homing .search 0 0)).Quiet
      ∧ (turning deck (homing .search 0 0)).loopRuns = true
      ∧ (turning deck (homing .search 0 0)).tables.turntable = some deck)
    ∧ (turning deck (homing .search 0 0)).OwnMove
    ∧ (0 < Ttc.currentLeg onward ∧ wrapHalf deck.turn ((16 : Nat) - deck.indexOffset : Int) = 16
      ∧ (16 : Int).natAbs ≤ deck.slipTolerance ∧ 1 ≤ Ttc.currentLeg onward - onward.stepIndex + 16
      ∧ wrapHalf deck.turn ((17 : Nat) - deck.indexOffset : Int) = 17 ∧ deck.slipTolerance < (17 : Int).natAbs
      ∧ (turning deck { inMove .moving onward with p := 16, a := 2147483647 }).Quiet
      ∧ (turning deck { inMove .moving onward with p := 17 }).Quiet ∧ Ttc.currentLeg (move false none) ≤ 0)
    ∧ (∀ st m b, m.context = 0 → (turning deck (inMove st m b)).OwnMove)
    ∧ (wrapHalf deck.turn ((6384 : Nat) - deck.indexOffset : Int) = -16
      ∧ Ttc.currentLeg (spent false false) - (spent false false).stepIndex + (-16) < 1
      ∧ (∀ m ∈ [spent true false, spent false true, spent false false],
        (turning deck { inMove .moving m with p := 6384, a := -16 }).Quiet ∧ m.context = 0 ∧ 0 < Ttc.currentLeg m)
      ∧ deck.planTo deck.indexOffset 0 (deck.target ((turning deck {}).tables.roadPos { position := 0, track := 5 }) .end1)
        = some [] ∧ 0 < deck.settleMs
      ∧ deck.planTo deck.indexOffset 0 (deck.target
          ((turning deck {}).tables.roadPos { position := 400, track := 5, endsAllowed := .end1 }) .end1) = some [1600]
      ∧ tight.planTo deck.indexOffset 0 (deck.target
          ((turning tight {}).tables.roadPos { position := 400, track := 5, endsAllowed := .end1 }) .end1) = none
      ∧ (turning deck {}).tables.roads.get? (spent false false).road = some { position := 0, track := 5 }
      ∧ (turning tight {}).tables.roads.get? astray.road = some { position := 400, track := 5, endsAllowed := .end1 }
      ∧ (turning tight { inMove .moving astray with p := 6384, a := -16 }).Quiet)
    ∧ ((turning deck still).Quiet ∧ still.boltLevel = true ∧ (turning boltless still).Quiet
      ∧ (turning boltless still).loopRuns = true ∧ boltless.boltPresent = false ∧ still.boltLevel ≠ false)
    ∧ ((turning deck { still with state := .aligned }).Quiet ∧ ({ still with state := .aligned } : Ttc).move = none)
    ∧ ((turning deck (inMove .unbolting onward true)).Quiet ∧ onward.stepIndex + 1 < (Ttc.currentLeg onward).natAbs)
    ∧ ((turning deck (inMove .bolting onward)).Quiet ∧ (turning deck (inMove .bolting onward)).tables.faced 0 .end1 ≠ 0
      ∧ (turning deck { inMove .bolting onward with p := 1 }).tables.faced 1 .end1 = 0
      ∧ (turning deck { inMove .bolting onward with p := 1 }).tables.faced 1 .end2 = 0)
    ∧ ((inMove .unbolting onward true).boltAt = some 9 ∧ (homing .withdraw 0 0).boltAt = some 9
      ∧ (turning deck (homing .withdraw 0 0)).Quiet
      ∧ (turning deck { homing .withdraw 0 0 with boltLevel := true }).Quiet
      ∧ (turning deck { homing .withdraw 0 0 with boltLevel := true }).OwnMove)
    ∧ ((turning deck (inMove .settling onward true)).Quiet ∧ (inMove .settling onward true).boltLevel = true
      ∧ deck.boltPresent = true)
    ∧ ((turning deck (inMove .settling onward)).Quiet ∧ (inMove .settling onward).settleAt = some 9
      ∧ (turning boltless (inMove .settling onward)).Quiet
      ∧ (turning boltless (inMove .settling onward)).tables.faced 0 .end1 ≠ 0) := by
  and_intros <;> first | decide | exact ownMove deck | exact fun _ h => (by cases h)

/-- A controller in a mode with VPC's records as given. -/
def boarded (m : Mode) (v : Vpc) : State := { inMode m with vpc := v }

/-- A board with slot 1 full, in a rotation, the cursor at a place. -/
def board (cursor : Nat) : Vpc := { slots := [(1, [0x41#8])], rotation := [1, 2], cursor, dwellAt := some 9 }

theorem witness_VisitorEnableAndBoard :
    ((inMode .configuring).Listens ∧ (inMode .configuring).loopRuns = false ∧ (inMode .running).Listens
      ∧ (inMode .running).loopRuns = true ∧ (inMode .running).Quiet ∧ 1 < (2#8 : Byte).toNat ∧ (1#8 : Byte).toNat ≠ 0)
    ∧ ((inMode .running).vpc.enable = decide ((0#8 : Byte).toNat = 1)
      ∧ (inMode .running).vpc.enable ≠ decide ((1#8 : Byte).toNat = 1) ∧ (inMode .configuring).Quiet)
    ∧ ((0#8 : Byte).toNat < 1 ∧ 8 < (9#8 : Byte).toNat ∧ 1 ≤ (1#8 : Byte).toNat ∧ (8#8 : Byte).toNat ≤ 8)
    ∧ ((boarded .ready (board 1)).Listens ∧ (board 1).cursor ≠ 0 ∧ (board 1).rotation[(board 1).cursor - 1]? = some 1
      ∧ (board 0).cursor = 0 ∧ 2 ∈ (board 0).rotation ∧ 8 ∉ (board 0).rotation
      ∧ (board 1).rotation[(board 1).cursor - 1]? ≠ some 2)
    ∧ (8 < (List.replicate 9 (1#8 : Byte)).length ∧ (∃ b ∈ [1#8, (9#8 : Byte)], b.toNat < 1 ∨ 8 < b.toNat)
      ∧ ([8#8, 1#8, 8#8] : List Byte).length ≤ 8 ∧ ∀ b ∈ ([8#8, 1#8, 8#8] : List Byte), 1 ≤ b.toNat ∧ b.toNat ≤ 8)
    ∧ ((boarded .ready (board 1)).inReset = false ∧ (boarded .ready (board 1)).Rested ∧ (board 1).dwellAt = some 9)
    ∧ ((boarded .ready { shown := some (8, 9) }).inReset = false ∧ (boarded .ready { shown := some (8, 9) }).Rested) := by
  and_intros <;> decide

/-- A press of button 1, and the script that answers it. -/
def press : VisitorEntry := { button := 1, script := 1, pressedAt := 0, expiresAt := 9 }
def pauseScript : ScriptRec := { button := 1, steps := [.pause 5] }
def scripted (a : Awaiting) : Vpc :=
  { runner := { script := 1, button := 1, awaiting := a, stepTimer := some 9, runtimeAt := some 9 } }

/-- The scripts that the layout may have for button 1, and a visitor who waits for one. -/
def scriptBy (l : List ScriptStep) : ScriptRec := { button := 1, steps := l }
def visited (l : List ScriptStep) : State :=
  { lts := { tables := { layout with scripts := [(1, scriptBy l)] }, mode := .running }
    vpc := { enable := true, queue := [press] }, dat := [(1, { visitorClass := .opened })] }

/-- A script runs that owns route 1, which is in a state. -/
def owning (w : RouteWork) (a : Awaiting) (l : List ScriptStep) : State :=
  { lts := { tables := { layout with scripts := [(1, scriptBy l)] }, mode := .running }
    rie := { routes := [(1, w)] }
    vpc := { (scripted a) with runner := { (scripted a).runner with owned := if w.state = .free then [] else [1] } } }

theorem witness_VisitorScriptsInTime :
    (∀ l ∈ [[.pause 5], [.waitClear 1 5], [.waitArrival 1 5], [ScriptStep.display 1 5]],
      (visited l).inReset = false ∧ (visited l).NothingDue ∧ (visited l).rie.heldQueue = [] ∧ (visited l).mode ≠ .stopping
      ∧ (visited l).startable = some press ∧ (visited l).vpc.queue = [press] ∧ (visited l).scriptRec press.script = some (scriptBy l)
      ∧ (visited l).occupancy 1 ≠ .clear ∧ (visited l).trainHeaded 1 = none ∧ press.script ≠ 0)
    ∧ ((boarded .ready { queue := [press] }).startable = none ∧ (boarded .ready { queue := [press] }).NothingDue
      ∧ (boarded .ready { queue := [press] }).vpc.queue = [press])
    ∧ (∀ w ∈ [{}, { state := .inUse }, { state := .locked, origin := some .visitor },
        ({ state := .locked, origin := some .visitor, clearedOnce := true } : RouteWork)],
      (owning w .time [.pause 5]).vpc.queue = [] ∧ (owning w .time [.pause 5]).NothingDue
      ∧ (owning w .time [.pause 5]).vpc.runner.runtimeAt = some 9
      ∧ (owning w .time [.pause 5]).vpc.runner.owned = (if w.state = .free then [] else [1])
      ∧ (owning w .time [.pause 5]).route 1 = w ∧ (owning w .time [.pause 5]).scriptRec 1 = some pauseScript
      ∧ (owning w .time [.pause 5]).allClear [3] = false)
    ∧ (∀ a ∈ [Awaiting.time, .arrival, .clear], (boarded .running (scripted a)).vpc.queue = []
      ∧ (boarded .running (scripted a)).NothingDue ∧ (scripted a).runner.stepTimer = some 9
      ∧ (scripted a).runner.owned = [] ∧ (boarded .running (scripted a)).scriptRec 1 = some pauseScript)
    ∧ (pauseScript.steps.length ≤ (scripted .time).runner.step
      ∧ (scriptBy [.pause 5, .pause 6]).steps[(owning {} .time [.pause 5, .pause 6]).vpc.runner.step]? = some (.pause 6)
      ∧ (owning {} .time [.pause 5, .pause 6]).NothingDue
      ∧ (owning {} .time [.pause 5, .pause 6]).scriptRec 1 = some (scriptBy [.pause 5, .pause 6]))
    ∧ ((boarded .running { coolDowns := [(1, 9)] }).NothingDue ∧ (boarded .running { coolDowns := [(1, 9)] }).startable = none
      ∧ (boarded .running { coolDowns := [(1, 9)] }).vpc.coolDowns.get? 1 = some 9) := by
  and_intros <;> decide

theorem witness_LampsFollowTheirTable : State.reset.LampsShown ∧ ∃ t, step State.reset = .next t :=
  ⟨fun _ _ _ => rfl, _, rfl⟩

/-- A visitor who waits, with the tables' script, beside RIE's and TTC's records. -/
def visiting (l : List ScriptStep) (r : Rie) (t : Ttc := {}) : State := { visited l with rie := r, ttc := t }

/-- The point node has been lost. -/
def lostNode (s : State) : State := { s with flc := { nodes := [(2, { state := .lost })] } }

/-- Script 1 waits for route 1, which is HELD. -/
def asking (w : RouteWork) : State :=
  { owning w .route [.setRoute 1] with
    rie := { routes := [(1, w)], heldQueue := [1] }
    vpc := { (scripted .route) with runner := { (scripted .route).runner with stepRoute := 1, owned := [1] } } }

theorem witness_ScriptRouteSteps :
    ((∀ s ∈ [visiting [.setRoute 191] {}, visiting [.setRoute 1] { routes := [(1, { state := .locked })] },
        { visiting [.setRoute 1] {} with lts := { (visited [.setRoute 1]).lts with routeSets := [(1, [2])] } },
        lain (visiting [.setRoute 1, .pause 5] {}), answering (visiting [.setRoute 1] {}), lostNode (visiting [.setRoute 1] {}),
        visiting [.setRoute 1] (lockedBy 192)],
      s.startable = some press ∧ s.NothingDue ∧ s.vpc.queue = [press] ∧ s.inReset = false ∧ s.rie.heldQueue = [])
      ∧ (∃ r, (visiting [.setRoute 1] {}).OneVisitor press r ∧ r.steps.head? = some (.setRoute 1)))
    ∧ ((visiting [.setRoute 191] {}).routeRec 191 = none
      ∧ ((visiting [.setRoute 1] { routes := [(1, { state := .locked })] }).route 1).state ≠ .free
      ∧ ({ visiting [.setRoute 1] {} with lts := { (visited [.setRoute 1]).lts with routeSets := [(1, [2])] } }).routeCheck
          .visitor 1 = .noAuthority
      ∧ (lain (visiting [.setRoute 1, .pause 5] {})).conflict 1 .visitor = none
      ∧ (lain (visiting [.setRoute 1, .pause 5] {})).liesAt 1 .normal = true
      ∧ (answering (visiting [.setRoute 1] {})).conflict 1 .visitor = none
      ∧ (answering (visiting [.setRoute 1] {})).liesAt 1 .normal = false
      ∧ ((answering (visiting [.setRoute 1] {})).pointNode 1).isLost = false
      ∧ (answering (visiting [.setRoute 1] {})).freeContext = some 1)
    ∧ ((lostNode (visiting [.setRoute 1] {})).conflict 1 .visitor = none
      ∧ ((lostNode (visiting [.setRoute 1] {})).pointNode 1).isLost = true
      ∧ (visiting [.setRoute 1] (lockedBy 192)).conflict 1 .visitor = some .sectionHeld)
    ∧ (∀ w ∈ [{ state := .held, origin := some .visitor, hold := .runs 9 }],
      (asking w).OneScript 1 (scriptBy [.setRoute 1]) ∧ (asking w).rie.heldQueue = [1] ∧ (asking w).route 1 = w
      ∧ (lain (asking w)).OneScript 1 (scriptBy [.setRoute 1]) ∧ (lain (asking w)).conflict 1 .visitor = none
      ∧ (lain (asking w)).routeCheck .visitor 1 ≠ .noAuthority
      ∧ (scriptBy [.setRoute 1]).steps.length ≤ (asking w).vpc.runner.step)
    ∧ (∀ w ∈ [{}, { state := .inUse, origin := some .visitor }, ({ state := .locked, origin := some .visitor } : RouteWork)],
      (owning w .time [.pause 5, .cancelRoute 1]).OneScript 1 (scriptBy [.pause 5, .cancelRoute 1])
      ∧ (owning w .time [.pause 5, .cancelRoute 1]).vpc.runner.step = 1
      ∧ (scriptBy [.pause 5, .cancelRoute 1]).steps[1]? = some (.cancelRoute 1)) := by
  and_intros <;> first | decide | exact ⟨scriptBy [.setRoute 1], by decide⟩

/-- Script 1 runs, with steps of its own, and waits. -/
def running (s : State) (a : Awaiting) (l : List ScriptStep) : State :=
  { s with lts := { s.lts with tables := { s.tables with scripts := [(1, scriptBy l)] } }
           vpc := { (scripted a) with enable := true } }

/-- The deck settles at the end of its move, without a bolt. -/
def settling (p : Nat) : State := running (turning boltless { inMove .settling onward with p := p }) .table [.turnTable 1 .end1]

theorem witness_ScriptWaitsAndAborts :
    ((∀ s ∈ [{ visiting [.turnTable 1 .either] {} still with dat := [] },
        { visiting [.turnTable 1 .either] {} still with dat := [(1, { visitorClass := .opened, releaseHolder := 3 })] },
        visiting [.turnTable 1 .either] {} { still with deckOwner := 2 },
        visiting [.turnTable 1 .either] {} { state := .moving }, faced (visiting [.turnTable 1 .either, .pause 5] {}),
        { visiting [.turnTable 24 .either] {} still with flc := { tracks := [(4, { occupancy := .clear })] } },
        { visited [.waitClear 1 5] with flc := { tracks := [(1, { occupancy := .clear })] } },
        { visited [.waitArrival 1 5] with td := trained.td }],
      s.startable = some press ∧ s.NothingDue ∧ s.vpc.queue = [press] ∧ s.inReset = false ∧ s.rie.heldQueue = [])
      ∧ ({ visiting [.turnTable 1 .either] {} still with dat := [] }).districtCheck .visitor 1 = .noAuthority
      ∧ ({ visiting [.turnTable 1 .either] {} still with
          dat := [(1, { visitorClass := .opened, releaseHolder := 3 })] }).districtCheck .visitor 1 = .localRelease
      ∧ (visiting [] {} still).districtCheck .visitor (visiting [] {} still).deckDistrict = .pass)
    ∧ ((faced (visited [])).facesAlready 1 .both .either = true ∧ (visiting [] {} still).facesAlready 24 .end1 .either = false
      ∧ Tables.askedAdmitted .either .end1 = true
      ∧ ({ visited [] with flc := { tracks := [(4, { occupancy := .clear })] } }).overhangs = false
      ∧ deck.planTo 0 0 (deck.target ((visited []).tables.roadPos { position := 400, track := 5, endsAllowed := .end1 })
          (deck.chooseEnd 0 1600 .end1 .either)) = some [1600])
    ∧ (({ visited [] with td := trained.td }).trainHeaded 1 = some 1
      ∧ ({ scriptBy [] with trainCode := some [0x5A#8] } : ScriptRec).trainCode ≠ some train.code)
    ∧ ((settling 0).OneScript 1 (scriptBy [.turnTable 1 .end1]) ∧ (settling 1).OneScript 1 (scriptBy [.turnTable 1 .end1])
      ∧ (settling 0).FacesAsked 1 .end1 ∧ ¬ (settling 1).FacesAsked 1 .end1 ∧ ¬ (settling 0).FacesAsked 24 .end2
      ∧ (settling 0).ttc.settleAt = some 9 ∧ (settling 0).vpc.runner.step = 1)
    ∧ (settling 0).OwnMove
    ∧ (∀ occ ∈ [[true, false, false, false, false], empty],
      (running (crossing layout {} occ 1) .clear [.waitClear 1 5]).OneScript 1 (scriptBy [.waitClear 1 5])
      ∧ (running (crossing layout {} occ 1) .clear [.waitClear 1 5]).OneChange polled (newReadings occ 1) 1
        (if occ = empty then .occupied else .clear))
    ∧ ((running trained .arrival [.waitArrival 2 5]).OneScript 1 (scriptBy [.waitArrival 2 5])
      ∧ (running trained .arrival [.waitArrival 2 5]).trainHolding 2 = none
      ∧ (running trained .arrival [.waitArrival 2 5]).freePosition = some 2)
    ∧ ((running (inMode .running) .time [.pause 5]).OneScript 1 (scriptBy [.pause 5])
      ∧ (running (inMode .running) .time [.pause 5]).vpc.enable = true
      ∧ (running (inMode .running) .time [.pause 5]).scriptCheck 1 = .pass
      ∧ ({ (running (inMode .running) .time [.pause 5]) with
          lts := { (running (inMode .running) .time [.pause 5]).lts with scriptSets := [(1, [1])] } }).scriptSet 1 = [1]
      ∧ ({ owner := 1 } : DistrictWork).base .visitor = false ∧ 2 ∉ ([1] : List Nat)) := by
  and_intros <;> first
    | decide
    | exact ownMove boltless .settling onward false (by decide)
    | (unfold State.FacesAsked; decide)

/-- An exchange with node `a` is open. -/
def exchanging (a : Nat) (x : SentFrame) (w : NodeWork) : State :=
  { inMode .running with flc := { nodes := [(a, w)], exchange := some { address := a, sent := x, windowAt := 9 } } }

theorem witness_FieldLoopExchanges :
    ((inMode .running).inReset = false ∧ (inMode .running).flc.exchange = none ∧ (inMode .running).loopRuns = true
      ∧ (inMode .running).nextPoll = some 1)
    ∧ ((exchanging 1 .identify { state := .census }).flc.exchange = some { address := 1, sent := .identify, windowAt := 9 }
      ∧ (exchanging 1 .identify { state := .census }).Quiet
      ∧ NodeKind.detect = ((exchanging 1 .identify { state := .census }).nodeRec 1).kind ∧ NodeKind.detect ≠ .absent
      ∧ ((exchanging 1 .identify { state := .census }).node 1).state ≠ .online
      ∧ NodeKind.board ≠ ((exchanging 1 .identify { state := .census }).nodeRec 1).kind)
    ∧ (({ checkGood := true, address := 31, body := .identity .detect false false } : FieldFrame).address ≠ 1
      ∧ ((exchanging 1 .detectOutput { state := .online }).node 1).state = .online
      ∧ ((exchanging 1 .detectOutput { state := .online }).node 1).misses = 0
      ∧ (exchanging 1 .detectOutput { state := .online }).Quiet
      ∧ (exchanging 1 .detectOutput { state := .online }).flc.exchange ≠ none)
    ∧ (((exchanging 1 .detectOutput { state := .missing, misses := 1 }).node 1).misses < 2
      ∧ (exchanging 1 .detectOutput { state := .missing, misses := 1 }).Quiet)
    ∧ (((exchanging 2 (.pointOutput []) { state := .missing, misses := 2 }).node 2).state = .missing
      ∧ ((exchanging 2 (.pointOutput []) { state := .missing, misses := 2 }).node 2).misses = 2
      ∧ (exchanging 2 (.pointOutput []) { state := .missing, misses := 2 }).Quiet
      ∧ 1 ∈ (exchanging 2 (.pointOutput []) { state := .missing, misses := 2 }).pointsOn 2)
    ∧ (∀ n, ((exchanging 2 (.pointOutput []) { state := .missing, misses := 2 }).context n).phase = .free)
    ∧ (SentFrame.detectOutput ≠ .identify ∧ ((exchanging 1 .detectOutput { state := .online }).nodeRec 1).kind = .detect
      ∧ (∃ k ∈ (exchanging 1 .detectOutput { state := .online }).tracksOn 1,
        (∀ j ∈ (exchanging 1 .detectOutput { state := .online }).tracksOn 1, j.1 = k.1 → j = k)
        ∧ (List.replicate 16 true)[k.2.detInput - 1]? = some true))
    ∧ (({} : TrackRead).firstPending = true
      ∧ ({ occupancy := .occupied, firstPending := false } : TrackRead).occupancy = (if true then .occupied else .clear)
      ∧ ({ occupancy := .clear, firstPending := false } : TrackRead).occupancy ≠ (if true then .occupied else .clear)
      ∧ 0 + 1 < ({} : GeneralRec).occupyCount ∧ ({} : GeneralRec).occupyCount ≤ 1 + 1) :=
  ⟨by decide, by decide, by decide, by decide, by decide, fun _ => rfl, by decide, by decide⟩

/-- A layout whose node 2 drives one point, of a kind, whose node 3 carries one signal and whose node 4 is a panel. -/
def single (k : DriveKind) : Tables :=
  { layout with nodes := layout.nodes ++ [(4, { kind := .panel })]
                points := [(1, { district := 1, drvNode := 2, drvChan := 1, driveKind := k,
                                 pulseCode := if k = .solenoid then some 2 else none, track := 1 })]
                signals := [(2, { district := 1, headNode := 3, head := 2 })] }

/-- Node 2 has answered a poll of its point's channel, which carried number 7. -/
def sounded : Exchange := { address := 2, sent := .pointOutput [(.pulse .normal 80, 7)], windowAt := 9 }

/-- That exchange is open, with the records of the point, its reading and RIE as given. -/
def sounding (k : DriveKind) (w : PointWork) (d : PointRead) (r : Rie := {}) (m : Mode := .running) : State :=
  { lts := { tables := single k, mode := m }, rie := r
    pts := { points := [(1, w)], slots := [(1, .busy 1 none)] }
    flc := { nodes := [(2, { state := .online })], exchange := some sounded, points := [(1, d)] } }

/-- A reading of the channel: the contacts made and the number acknowledged. -/
def contacts (n r : Bool) (ack : Byte) : ContactReading := { normalMade := n, reverseMade := r, ack := ack }

theorem sounding_onePoint (k : DriveKind) (w : PointWork) (d : PointRead) (r : Rie) (m : Mode) (v : ContactReading) :
    ∃ pr, (sounding k w d r m).OnePoint sounded [(.pulse .normal 80, 7)] [v] 1 pr v ∧ pr.driveKind = k :=
  ⟨_, ⟨⟨rfl, rfl, by decide, rfl, rfl⟩, rfl, rfl, rfl, rfl, rfl⟩, rfl⟩

theorem acknowledged (k : DriveKind) (w : PointWork) (d : PointRead) (r : Rie) (m : Mode) (n x : Bool) (pr : PointRec)
    (h : (sounding k w d r m).pointRec 1 = some pr) (c : w.commandNumber = 7) :
    (sounding k w d r m).Acknowledged [(.pulse .normal 80, 7)] 1 pr (contacts n x 7) := by
  cases h
  exact ⟨⟨_, rfl⟩, c.symm, by show (7#8 : Byte).toNat ≠ 0; decide⟩

theorem nothing_awaited (s : State) (out : List (DriveCommand × Nat)) (p : Nat) (pr : PointRec) (n x : Bool) :
    s.NothingAwaited out p pr (contacts n x 0) := fun h => absurd rfl h.2.2

/-- The lie of the point as two readings have it. -/
def lies (d : Detected) : PointRead := { detected := d, lastReading := some d }

theorem witness_AnswersOfPointNodes :
    (∀ k w d r m v, ∃ pr, (sounding k w d r m).OnePoint sounded [(.pulse .normal 80, 7)] [v] 1 pr v ∧ pr.driveKind = k)
    ∧ (∀ k w d r m n x pr, (sounding k w d r m).pointRec 1 = some pr → w.commandNumber = 7 →
      (sounding k w d r m).Acknowledged [(.pulse .normal 80, 7)] 1 pr (contacts n x 7))
    ∧ (∀ s out p pr n x, State.NothingAwaited s out p pr (contacts n x 0))
    ∧ ((sounding .solenoid {} (lies .normal)).Quiet
      ∧ (sounding .solenoid {} (lies .normal)).detectedAfter 1 (contactClass (contacts true false 0)) = .normal
      ∧ (sounding .solenoid {} (lies .normal)).detected 1 = .normal)
    ∧ (((sounding .motor { driveCommand := .stop, commandNumber := 7 } (lies .normal)).point 1).driveCommand = .stop
      ∧ (sounding .motor { driveCommand := .stop, commandNumber := 7 } (lies .normal)).Quiet)
    ∧ (∀ k ∈ [DriveKind.solenoid, .motor], ∀ d ∈ [Detected.reverse, .normal],
      (sounding k { order := some (order .sent), commandNumber := 7 } (lies d)).Quiet
      ∧ ((sounding k { order := some (order .sent), commandNumber := 7 } (lies d)).point 1).driveCommand ≠ .stop
      ∧ ((sounding k { order := some (order .sent), commandNumber := 7 } (lies d)).point 1).order = some (order .sent)
      ∧ (sounding k { order := some (order .sent), commandNumber := 7 } (lies d)).lieOf 1 = d.lie?)
    ∧ (∀ ph, (order ph).FromOrigins)
    ∧ (∀ ph ∈ [Phase.driving, .proving, .waiting],
      ((sounding .motor { order := some (order ph) } { detected := .moving, lastReading := some .normal }).point 1).order
        = some (order ph)
      ∧ (sounding .motor { order := some (order ph) } { detected := .moving, lastReading := some .normal }).detectedAfter 1
        (contactClass (contacts true false 0)) = .normal
      ∧ (sounding .motor { order := some (order ph) } { detected := .moving, lastReading := some .normal }).Quiet)
    ∧ ((sounding .solenoid {} { detected := .unknown, lastReading := some .normal }).holders 1 = []
      ∧ ((sounding .solenoid {} { detected := .unknown, lastReading := some .normal }).point 1).order = none
      ∧ (sounding .solenoid {} { detected := .unknown, lastReading := some .normal }).detectedAfter 1
        (contactClass (contacts true false 0)) = .normal)
    ∧ (∀ u ∈ [false, true], ∀ m ∈ [Mode.running, .ready],
      (sounding .solenoid { commanded := some .normal, redriveUsed := u } { detected := .normal, lastReading := some .reverse }
        { holders := [(1, [(1, .normal)])] } m).holders 1 = [(1, .normal)]
      ∧ (sounding .solenoid { commanded := some .normal, redriveUsed := u } { detected := .normal, lastReading := some .reverse }
        { holders := [(1, [(1, .normal)])] } m).detectedAfter 1 (contactClass (contacts false true 0)) = .reverse
      ∧ ((sounding .solenoid { commanded := some .normal, redriveUsed := u }
        { detected := .normal, lastReading := some .reverse } { holders := [(1, [(1, .normal)])] } m).point 1).commanded
        ≠ none
      ∧ (sounding .solenoid { commanded := some .normal, redriveUsed := u } { detected := .normal, lastReading := some .reverse }
        { holders := [(1, [(1, .normal)])] } m).Quiet
      ∧ (sounding .solenoid { commanded := some .normal, redriveUsed := u } { detected := .normal, lastReading := some .reverse }
        { holders := [(1, [(1, .normal)])] } m).railActive = decide (m = .running)) := by
  refine ⟨sounding_onePoint, acknowledged, nothing_awaited, ?_⟩
  and_intros <;> first | decide | exact fun _ _ h => ⟨.auto, by simpa [order] using h⟩

/-- The exchange with the signal's node, whose head 2 was sent an aspect, and the one with the panel. -/
def lit : Exchange := { address := 3, sent := .signalOutput [none, some .danger], windowAt := 9 }
def felt : Exchange := { address := 4, sent := .panelOutput [], windowAt := 9 }

def showing (a : Aspect) : State :=
  { lts := { tables := single .motor, mode := .running }, sau := [(2, { commanded := a })]
    flc := { nodes := [(3, { state := .online })], exchange := some lit } }

def touching (b : ButtonRead) (v : Vpc) : State :=
  { lts := { tables := single .motor, mode := .running }, vpc := v, dat := [(1, { visitorClass := .opened })]
    flc := { nodes := [(4, { state := .online })], exchange := some felt, buttons := [(1, b)] } }

/-- Button 1 was pressed in the last reading, and not before it. -/
def touched : ButtonRead := { lastReading := some true, confirmed := true }

theorem witness_AnswersOfSignalAndPanelNodes :
    (∀ a ∈ [Aspect.danger, .clear], (showing a).Exchanging lit .signal ∧ (showing a).Quiet
      ∧ (showing a).signalsOn 3 = [(2, 2)] ∧ ((showing a).signal 2).commanded = a
      ∧ ([none, some .danger] : List HeadAspect)[2 - 1]? = some (some .danger)
      ∧ ([false, true] : List Bool)[2 - 1]? = some true)
    ∧ ((touching {} {}).Exchanging felt .panel ∧ (touching {} {}).NothingDue ∧ (touching {} {}).rie.heldQueue = []
      ∧ (touching {} {}).mode ≠ .stopping ∧ (touching {} {}).startable = none
      ∧ ((touching {} {}).button 1).isPress true = false)
    ∧ (∀ v ∈ [{}, { enable := true }, ({ enable := true, runner := { script := 2 } } : Vpc)],
      (touching touched v).Exchanging felt .panel ∧ (touching touched v).NothingDue ∧ (touching touched v).rie.heldQueue = []
      ∧ (touching touched v).startable = none ∧ ((touching touched v).button 1).lastReading = some true
      ∧ ((touching touched v).button 1).pressed = false ∧ ((touching touched v).button 1).confirmed = true
      ∧ (touching touched v).lampOf 1 = (if v.enable = true then .steady else .off) ∧ (touching touched v).vpc = v
      ∧ (touching touched v).scriptOf 1 = some 1 ∧ (touching touched v).scriptRec 1 = some pauseScript)
    ∧ pauseScript.steps.head? = some (.pause 5) := by
  and_intros <;> decide

/-- The failure of a throw, its completion, and the end of a move reach context 1. -/
def reported (k : DriveKind) (j : List JournalEntry) (p : Pts) (d : PointRead) (t : Ttc) (b : Bool) : State :=
  { lts := { tables := { single k with turntable := some (if b then deck else { deck with boltPresent := false }) },
             mode := .running }
    rie := (contexted j p).rie, pts := p, ttc := t
    flc := { nodes := [(2, { state := .online })], exchange := some sounded, points := [(1, d)] } }

def tableEntry : JournalEntry := { target := .table 1 .end1 none }
def contextMove (st : TtcState) : Ttc := inMove st { move false none with context := 1 }

theorem witness_ContextReports :
    ((inMode .running).Listens ∧ (inMode .running).Quiet ∧ (inMode .running).conflict 1 (originOf 0) = none
      ∧ (inMode .running).freeContext = some 1 ∧ ((inMode .running).point 1).order = none
      ∧ ((inMode .running).pointNode 1).isLost = true ∧ (inMode .running).liesAt 1 .normal = false
      ∧ (inMode .running).routeCheck (originOf 0) 1 ≠ .noAuthority
      ∧ ∃ r, (inMode .running).routeRec 1 = some r ∧ r.reqs = [⟨1, .normal, .path, 1⟩] ∧ r.cls = .main)
    ∧ (∀ j ∈ [[entryFor 1], [entryFor 1, entryFor 2], [tableEntry]],
      (contexted j {}).inReset = false ∧ (contexted j {}).Quiet ∧ (contexted j {}).mode = .running
      ∧ ((contexted j {}).context 1).phase = .setting ∧ ((contexted j {}).context 1).route = 1
      ∧ ((contexted j {}).context 1).journal = j ∧ (contexted j {}).routeRec 1 ≠ none
      ∧ ((contexted j {}).route 1).state = .setting ∧ ((contexted j {}).route 1).released = []
      ∧ ((contexted j {}).route 1).overlapReleased = false ∧ ∀ i ∈ j, i.outcome = .pending)
    ∧ (∀ ph ∈ [Phase.sent, .driving, .proving], ∀ ph' ∈ [Phase.waiting, .driving],
      let s := contexted [entryFor 1, entryFor 2]
        { points := [(1, { order := some (ordered ph) }), (2, { order := some (ordered ph') })]
          queue := if ph' = .waiting then [2] else [] }
      s.Quiet ∧ s.pointRec 1 ≠ none ∧ (s.point 1).order = some (ordered ph) ∧ (ordered ph).phase ≠ .waiting
      ∧ (ordered ph).limitAt = some 9 ∧ (ordered ph).requesters = [.context 1]
      ∧ (s.point 2).order = some (ordered ph') ∧ (ordered ph').cause = .setting ∧ (ph' ≠ .waiting → 2 ∉ s.pts.queue)
      ∧ (s.pointRec 1).map (·.driveKind) = some .solenoid)
    ∧ (∀ ph ∈ [Phase.driving, .proving],
      let s := reported .motor [entryFor 1] { points := [(1, { order := some (ordered ph) })] }
        { detected := .moving, lastReading := some .normal } {} true
      s.Quiet ∧ (s.point 1).order = some (ordered ph) ∧ (s.context 1).journal = [entryFor 1]
      ∧ (s.detectedAfter 1 (contactClass (contacts true false 0))).lie? = some (ordered ph).lie
      ∧ s.lieOf 1 ≠ some (ordered ph).lie)
    ∧ (∃ s pr, State.OnePoint s sounded [(.pulse .normal 80, 7)] [contacts true false 0] 1 pr (contacts true false 0)
      ∧ s = reported .motor [entryFor 1] { points := [(1, { order := some (ordered .driving) })] }
        { detected := .moving, lastReading := some .normal } {} true)
    ∧ (let s := reported .motor [tableEntry] {} {} (contextMove .settling) false
      s.Quiet ∧ s.ttc.settleAt = some 9 ∧ (s.tables.turntable).map (·.boltPresent) = some false
      ∧ (s.ttc.move).map (·.context) = some 1 ∧ s.tables.faced s.ttc.p .end1 = 1
      ∧ (s.context 1).journal = [tableEntry])
    ∧ (let s := reported .motor [tableEntry] {} {} (contextMove .unbolting) true
      s.Quiet ∧ s.ttc.boltAt = some 9 ∧ (s.ttc.move).map (·.context) = some 1) := by
  and_intros <;> first
    | decide
    | exact ⟨_, _, ⟨⟨rfl, rfl, by decide, rfl, rfl⟩, rfl, rfl, rfl, rfl, rfl⟩, rfl⟩

end Sys2Proof.Tests
end

section
/-! SUPPORT. TABLE_WRITE and TABLE_READ, case by case (R2, R3, R179). -/

namespace Sys2Proof.Machine

variable {table index : Byte} {s : State}

theorem ownTableWrite_wrongMode (f : WriteForm) (hm : s.mode ≠ .configuring) :
    ownTableWrite table index f s = answer .wrongMode s := by
  simp [ownTableWrite, hm]

theorem ownTableWrite_badAddress (f : WriteForm) (hm : s.mode = .configuring)
    (ha : addressesRecord table.toNat index.toNat = false) : ownTableWrite table index f s = answer .badValue s := by
  simp [ownTableWrite, hm, ha]

theorem ownTableWrite_misfit (hm : s.mode = .configuring) (ha : addressesRecord table.toNat index.toNat = true) :
    ownTableWrite table index .misfit s = answer .badValue s := by
  simp [ownTableWrite, hm, ha]

theorem ownTableWrite_clear (hm : s.mode = .configuring) (ha : addressesRecord table.toNat index.toNat = true) :
    ownTableWrite table index .clear s
      = answer .ok (setTables (s.tables.clearRecord table.toNat index.toNat) s) := by
  simp [ownTableWrite, hm, ha]

theorem ownTableWrite_failing {r : RawRecord} (hm : s.mode = .configuring)
    (ha : addressesRecord table.toNat index.toNat = true)
    (hr : s.tables.writeRecord table.toNat index.toNat r = none) :
    ownTableWrite table index (.record r) s = answer .badValue s := by
  simp [ownTableWrite, hm, ha, hr]

theorem ownTableWrite_record {r : RawRecord} {t : Tables} (hm : s.mode = .configuring)
    (ha : addressesRecord table.toNat index.toNat = true)
    (hr : s.tables.writeRecord table.toNat index.toNat r = some t) :
    ownTableWrite table index (.record r) s = answer .ok (setTables t s) := by
  simp [ownTableWrite, hm, ha, hr]

theorem ownTableRead_badAddress (ha : addressesRecord table.toNat index.toNat = false) :
    ownTableRead table index s = answer .badValue s := by
  simp [ownTableRead, ha]

theorem ownTableRead_absent (ha : addressesRecord table.toNat index.toNat = true)
    (hr : s.tables.readRecord table.toNat index.toNat = none) : ownTableRead table index s = answer .notFound s := by
  simp [ownTableRead, ha, hr]

theorem ownTableRead_stored {r : StoredRecord} (ha : addressesRecord table.toNat index.toNat = true)
    (hr : s.tables.readRecord table.toNat index.toNat = some r) :
    ownTableRead table index s = reports (.stored r) s := by
  simp [ownTableRead, ha, hr]

/-- A request that is let through does what its owner decides on the state with the request in service. -/
theorem serve_decision {kind : Byte} {owner : State → Decision} {d : Decision} (hs : s.Listens)
    (hd : owner (s.taken kind) = d) : serve kind owner s = .next (d.1.replied kind d.2.result d.2.body) := by
  rw [serve_owner kind owner hs, hd, reply_eq]

/-- Settles O15, case by case of the owner's decision. The mode and the tables of `s` are those of the state with the request in service. -/
theorem tableWriteAndReadAnswers : Obligations.TableWriteAndReadAnswers := fun _ _ s hs =>
  ⟨fun hm f => serve_decision hs (ownTableWrite_wrongMode (s := s.taken _) f hm),
    fun hm ha f => serve_decision hs (ownTableWrite_badAddress (s := s.taken _) f hm ha),
    fun hm ha => ⟨serve_decision hs (ownTableWrite_misfit (s := s.taken _) hm ha),
      serve_decision hs (ownTableWrite_clear (s := s.taken _) hm ha),
      fun _ hr => serve_decision hs (ownTableWrite_failing (s := s.taken _) hm ha hr),
      fun _ _ hr => serve_decision hs (ownTableWrite_record (s := s.taken _) hm ha hr)⟩,
    fun ha => serve_decision hs (ownTableRead_badAddress ha),
    fun ha hr => serve_decision hs (ownTableRead_absent (s := s.taken _) ha hr),
    fun _ ha hr => serve_decision hs (ownTableRead_stored (s := s.taken _) ha hr)⟩

end Sys2Proof.Machine
end

section
/-! SUPPORT. One record of the tables (R2, R3): a write stores the record that its fields give, whole, and a clear takes one
record out. -/

namespace Sys2Proof

open Machine

/-! ## Taking a record out of a sparse table -/

theorem Tab.get?_erase {α : Type} (t : Tab α) (k j : Nat) :
    (t.erase k).get? j = if j = k then none else t.get? j := by
  unfold Tab.erase
  induction t with
  | nil => simp [Tab.get?]
  | cons e t ih =>
    obtain ⟨i, w⟩ := e
    by_cases hi : i = k
    · subst hi
      rw [List.filter_cons_of_neg (by simp), ih]
      by_cases hj : j = i <;> simp [Tab.get?, hj]
    · by_cases hj : j = i
      · subst hj
        simp [Tab.get?, hi]
      · simp [Tab.get?, ih, hi, hj]

theorem Tab.getD_erase {α : Type} (t : Tab α) (k j : Nat) (d : α) :
    (t.erase k).getD j d = if j = k then d else t.getD j d := by
  simp only [Tab.getD, Tab.get?_erase]
  split <;> rfl

theorem Tab.getD_put {α : Type} (t : Tab α) (k j : Nat) (v d : α) :
    (t.put k v).getD j d = if j = k then v else t.getD j d := by
  simp only [Tab.getD, Tab.get?_put]
  split <;> rfl

/-- The tables GENERAL and TURNTABLE have one record. -/
theorem index_of_addressesRecord {table index : Nat} (h : addressesRecord table index = true)
    (ht : indexLimit table = 1) : index = 1 := by
  simp only [addressesRecord, ht, Bool.and_eq_true, decide_eq_true_eq] at h
  omega

/-! ## A record stored whole -/

/-- The number of the table that a record belongs to (1.1). -/
def Machine.StoredRecord.tableNumber : StoredRecord → Nat
  | .general _ => 1 | .node _ => 2 | .track _ => 3 | .point _ => 4 | .signal _ => 5 | .route _ => 6 | .district _ => 7
  | .turntable _ => 8 | .road _ => 9 | .script _ => 10 | .berth _ => 11

/-- The record takes the place of the one at its index. -/
def Tables.store (t : Tables) (i : Nat) : StoredRecord → Tables
  | .general v => { t with general := v }
  | .node v => { t with nodes := t.nodes.put i v }
  | .track v => { t with tracks := t.tracks.put i v }
  | .point v => { t with points := t.points.put i v }
  | .signal v => { t with signals := t.signals.put i v }
  | .route v => { t with routes := t.routes.put i v }
  | .district v => { t with districts := t.districts.put i v }
  | .turntable v => { t with turntable := some v }
  | .road v => { t with roads := t.roads.put i v }
  | .script v => { t with scripts := t.scripts.put i v }
  | .berth v => { t with berths := t.berths.put i v }

/-- The record that the written fields give, each in range; `none` where a field fails (R2). -/
def RawRecord.stored? : RawRecord → Option StoredRecord
  | .general r => (ifInRange GeneralRec.inRange r.resolve).map .general
  | .node k => (k.resolve (some .absent)).map fun v => .node { kind := v }
  | .track r => (ifInRange TrackRec.inRange r.resolve).map .track
  | .point r => (ifInRange PointRec.inRange r.resolve).map .point
  | .signal r => (ifInRange SignalRec.inRange r.resolve).map .signal
  | .route r => (ifInRange RouteRec.inRange r.resolve).map .route
  | .district r => (ifInRange DistrictRec.inRange r.resolve).map .district
  | .turntable r => (ifInRange TurntableRec.inRange r.resolve).map .turntable
  | .road r => (ifInRange RoadRec.inRange r.resolve).map .road
  | .script r => (ifInRange ScriptRec.inRange r.resolve).map .script
  | .berth b => (ifInRange BerthRec.inRange ((b.resolve (some 0)).map fun v => { track := v })).map .berth

/-- A write that is taken stores the record its fields give, in the table that the record belongs to. -/
theorem Tables.writeRecord_stores {t u : Tables} {table i : Nat} {r : RawRecord}
    (h : t.writeRecord table i r = some u) :
    ∃ v, r.stored? = some v ∧ v.tableNumber = table ∧ u = t.store i v := by
  unfold Tables.writeRecord at h
  split at h
  case h_12 => cases h
  all_goals
    obtain ⟨v, hv, rfl⟩ := Option.map_eq_some_iff.1 h
    exact ⟨_, by simp only [RawRecord.stored?, hv, Option.map_some]; rfl, rfl, rfl⟩

/-- What is read after a record is stored: at its own place that record, elsewhere what stood there. -/
theorem Tables.readRecord_store (t : Tables) {i j table : Nat} (v : StoredRecord)
    (hi : addressesRecord v.tableNumber i = true) (hj : addressesRecord table j = true) :
    (t.store i v).readRecord table j = if table = v.tableNumber ∧ j = i then some v else t.readRecord table j := by
  by_cases ht : table = v.tableNumber
  · subst ht
    cases v with
    | general v | turntable v =>
      have hji : j = i := (index_of_addressesRecord hj rfl).trans (index_of_addressesRecord hi rfl).symm
      simp [StoredRecord.tableNumber, readRecord, store, hji]
    | node v | district v | berth v =>
      simp only [StoredRecord.tableNumber, readRecord, store, Tab.getD_put, true_and]
      split <;> rfl
    | track v | point v | signal v | route v | road v | script v =>
      simp only [StoredRecord.tableNumber, readRecord, store, Tab.get?_put, true_and]
      split <;> rfl
  · rw [if_neg fun h => ht h.1]
    unfold readRecord
    cases v <;> split <;> first | rfl | exact absurd rfl ht

end Sys2Proof
end

section
/-! SUPPORT. What a written field reads back as (R2, R3), record by record. -/

namespace Sys2Proof

open Machine

theorem Fld.resolve_eq_some {α : Type} {f : Fld α} {d : Option α} {v : α} :
    f.resolve d = some v ↔ ReadsBack f d v := by
  cases f <;> simp [Fld.resolve, ReadsBack]

theorem Fld.optional_eq_some {α : Type} {f : Fld α} {v : Option α} : f.optional = some v ↔ ReadsBackOr f v := by
  cases f <;> simp [Fld.optional, ReadsBackOr, eq_comm]

theorem ifInRange_eq_some {α : Type} {test : α → Bool} {r : Option α} {v : α} :
    ifInRange test r = some v ↔ r = some v ∧ test v = true := Option.filter_eq_some_iff

theorem RawGeneral.resolve_fields {f : RawGeneral} {v : GeneralRec} (h : f.resolve = some v) :
    ReadsBack f.occupyCount (some 2) v.occupyCount ∧ ReadsBack f.clearCount (some 4) v.clearCount
      ∧ ReadsBack f.replyWindow (some 3) v.replyWindow ∧ ReadsBack f.driveBudget (some 2) v.driveBudget
      ∧ ReadsBack f.rechargeMs (some 400) v.rechargeMs ∧ ReadsBack f.heldDefault (some 120) v.heldDefault
      ∧ ReadsBack f.visitorWaitLimit (some 180) v.visitorWaitLimit ∧ ReadsBack f.dwell (some 8) v.dwell
      ∧ ReadsBack f.visitorAtStart (some false) v.visitorAtStart := by
  simp only [RawGeneral.resolve, Option.bind_eq_bind, Option.bind_eq_some_iff, Fld.resolve_eq_some,
    Option.some.injEq] at h
  obtain ⟨_, h1, _, h2, _, h3, _, h4, _, h5, _, h6, _, h7, _, h8, _, h9, rfl⟩ := h
  exact ⟨h1, h2, h3, h4, h5, h6, h7, h8, h9⟩

theorem RawTrack.resolve_fields {f : RawTrack} {v : TrackRec} (h : f.resolve = some v) :
    ReadsBack f.district none v.district ∧ ReadsBack f.detector none (v.detNode, v.detInput)
      ∧ ReadsBack f.kind (some .plain) v.kind ∧ ReadsBack f.endA (some .open) v.endA
      ∧ ReadsBack f.endB (some .open) v.endB := by
  simp only [RawTrack.resolve, Option.bind_eq_bind, Option.bind_eq_some_iff, Fld.resolve_eq_some,
    Option.some.injEq] at h
  obtain ⟨_, h1, _, h2, _, h3, _, h4, _, h5, rfl⟩ := h
  exact ⟨h1, h2, h3, h4, h5⟩

/-- 1.5: a pulse code left out takes its default with SOLENOID alone; one with MOTOR is out of range. -/
theorem RawPoint.resolve_fields {f : RawPoint} {v : PointRec} (h : f.resolve = some v) (hr : v.inRange = true) :
    ReadsBack f.district none v.district ∧ ReadsBack f.drive none (v.drvNode, v.drvChan)
      ∧ ReadsBack f.driveKind (some .solenoid) v.driveKind
      ∧ (v.driveKind = .solenoid → ∃ c, v.pulseCode = some c ∧ ReadsBack f.pulseCode (some 2) c)
      ∧ (v.driveKind = .motor → f.pulseCode = .omitted ∧ v.pulseCode = none)
      ∧ ReadsBack f.throwLimit (some 30) v.throwLimit ∧ ReadsBack f.track none v.track := by
  simp only [RawPoint.resolve, Option.bind_eq_bind, Option.bind_eq_some_iff, Fld.resolve_eq_some, Fld.optional_eq_some,
    Option.some.injEq] at h
  obtain ⟨_, h1, _, h2, _, h3, _, h4, _, h5, _, h6, rfl⟩ := h
  refine ⟨h1, h2, h3, fun hk => ?_, fun hk => ?_, h5, h6⟩
  · subst hk
    obtain ⟨hp, rfl⟩ | ⟨c, hp, rfl⟩ := h4
    · exact ⟨2, rfl, .inr ⟨hp, rfl⟩⟩
    · exact ⟨c, rfl, .inl hp⟩
  · subst hk
    obtain ⟨hp, rfl⟩ | ⟨c, hp, rfl⟩ := h4
    · exact ⟨hp, rfl⟩
    · simp [PointRec.inRange] at hr

theorem RawSignal.resolve_fields {f : RawSignal} {v : SignalRec} (h : f.resolve = some v) :
    ReadsBack f.district none v.district ∧ ReadsBack f.head none (v.headNode, v.head)
      ∧ ReadsBack f.kind (some .main3) v.kind ∧ ReadsBack f.callOnHead (some false) v.callOnHead := by
  simp only [RawSignal.resolve, Option.bind_eq_bind, Option.bind_eq_some_iff, Fld.resolve_eq_some,
    Option.some.injEq] at h
  obtain ⟨_, h1, _, h2, _, h3, _, h4, rfl⟩ := h
  exact ⟨h1, h2, h3, h4⟩

theorem RawRoute.resolve_fields {f : RawRoute} {v : RouteRec} (h : f.resolve = some v) :
    ReadsBack f.cls (some .main) v.cls ∧ ReadsBack f.entry none v.entry ∧ ReadsBack f.exit none v.exit
      ∧ ReadsBack f.path none v.path ∧ ReadsBack f.reqs (some []) v.reqs
      ∧ ReadsBack f.overlap (some []) v.overlap ∧ ReadsBackOr f.deck v.deck
      ∧ ReadsBack f.approach (some []) v.approach ∧ ReadsBack f.approachTime (some 60) v.approachTime
      ∧ ReadsBack f.overlapTime (some 30) v.overlapTime := by
  simp only [RawRoute.resolve, Option.bind_eq_bind, Option.bind_eq_some_iff, Fld.resolve_eq_some, Fld.optional_eq_some,
    Option.some.injEq] at h
  obtain ⟨_, h1, _, h2, _, h3, _, h4, _, h5, _, h6, _, h7, _, h8, _, h9, _, h10, rfl⟩ := h
  exact ⟨h1, h2, h3, h4, h5, h6, h7, h8, h9, h10⟩

theorem RawDistrict.resolve_fields {f : RawDistrict} {v : DistrictRec} (h : f.resolve = some v) :
    ReadsBack f.owner (some 0) v.owner ∧ ReadsBack f.shared (some false) v.shared
      ∧ ReadsBack f.visitorClass (some .closed) v.visitorClass := by
  simp only [RawDistrict.resolve, Option.bind_eq_bind, Option.bind_eq_some_iff, Fld.resolve_eq_some,
    Option.some.injEq] at h
  obtain ⟨_, h1, _, h2, _, h3, rfl⟩ := h
  exact ⟨h1, h2, h3⟩

/-- 1.9: a bolt limit left out takes its default with a bolt alone; one without a bolt is out of range. -/
theorem RawTurntable.resolve_fields {f : RawTurntable} {v : TurntableRec} (h : f.resolve = some v) (hr : v.inRange = true) :
    ReadsBack f.fullSteps none v.fullSteps ∧ ReadsBack f.microShift (some 0) v.microShift
      ∧ ReadsBack f.indexOffset (some 0) v.indexOffset ∧ ReadsBack f.slipTolerance (some 8) v.slipTolerance
      ∧ ReadsBack f.backlash (some 0) v.backlash ∧ ReadsBack f.rampSteps (some 100) v.rampSteps
      ∧ ReadsBack f.startRate (some 200) v.startRate ∧ ReadsBack f.topRate (some 800) v.topRate
      ∧ ReadsBack f.preferredDir (some .cw) v.preferredDir ∧ ReadsBack f.windingLimit (some 0) v.windingLimit
      ∧ ReadsBack f.settleMs (some 300) v.settleMs ∧ ReadsBack f.boltPresent (some false) v.boltPresent
      ∧ (v.boltPresent = true → ∃ c, v.boltLimit = some c ∧ ReadsBack f.boltLimit (some 10) c)
      ∧ (v.boltPresent = false → f.boltLimit = .omitted ∧ v.boltLimit = none)
      ∧ ReadsBack f.homeAttempts (some 3) v.homeAttempts := by
  unfold RawTurntable.resolve at h
  obtain ⟨_, h1, h⟩ := Option.bind_eq_some_iff.1 h
  obtain ⟨_, h2, h⟩ := Option.bind_eq_some_iff.1 h
  obtain ⟨_, h3, h⟩ := Option.bind_eq_some_iff.1 h
  obtain ⟨_, h4, h⟩ := Option.bind_eq_some_iff.1 h
  obtain ⟨_, h5, h⟩ := Option.bind_eq_some_iff.1 h
  obtain ⟨_, h6, h⟩ := Option.bind_eq_some_iff.1 h
  obtain ⟨_, h7, h⟩ := Option.bind_eq_some_iff.1 h
  obtain ⟨_, h8, h⟩ := Option.bind_eq_some_iff.1 h
  obtain ⟨_, h9, h⟩ := Option.bind_eq_some_iff.1 h
  obtain ⟨_, h10, h⟩ := Option.bind_eq_some_iff.1 h
  obtain ⟨_, h11, h⟩ := Option.bind_eq_some_iff.1 h
  obtain ⟨_, h12, h⟩ := Option.bind_eq_some_iff.1 h
  obtain ⟨_, h13, h⟩ := Option.bind_eq_some_iff.1 h
  obtain ⟨_, h14, h⟩ := Option.bind_eq_some_iff.1 h
  simp only [Fld.resolve_eq_some, Fld.optional_eq_some] at h1 h2 h3 h4 h5 h6 h7 h8 h9 h10 h11 h12 h13 h14
  cases h
  refine ⟨h1, h2, h3, h4, h5, h6, h7, h8, h9, h10, h11, h12, fun hk => ?_, fun hk => ?_, h14⟩
  · subst hk
    obtain ⟨hp, rfl⟩ | ⟨c, hp, rfl⟩ := h13
    · exact ⟨10, rfl, .inr ⟨hp, rfl⟩⟩
    · exact ⟨c, rfl, .inl hp⟩
  · subst hk
    obtain ⟨hp, rfl⟩ | ⟨c, hp, rfl⟩ := h13
    · exact ⟨hp, rfl⟩
    · simp [TurntableRec.inRange] at hr

theorem RawRoad.resolve_fields {f : RawRoad} {v : RoadRec} (h : f.resolve = some v) :
    ReadsBack f.position none v.position ∧ ReadsBack f.track none v.track
      ∧ ReadsBack f.endsAllowed (some .both) v.endsAllowed := by
  simp only [RawRoad.resolve, Option.bind_eq_bind, Option.bind_eq_some_iff, Fld.resolve_eq_some,
    Option.some.injEq] at h
  obtain ⟨_, h1, _, h2, _, h3, rfl⟩ := h
  exact ⟨h1, h2, h3⟩

/-- R2: letters of a train code are folded. -/
theorem RawScript.resolve_fields {f : RawScript} {v : ScriptRec} (h : f.resolve = some v) :
    ReadsBack f.button none v.button
      ∧ (f.trainCode = .omitted ∧ v.trainCode = none
        ∨ ∃ c, f.trainCode = .given c ∧ v.trainCode = some (c.map foldByte))
      ∧ ReadsBack f.coolDown (some 60) v.coolDown ∧ ReadsBack f.maxRuntime (some 180) v.maxRuntime
      ∧ ReadsBack f.steps none v.steps := by
  simp only [RawScript.resolve, Option.bind_eq_bind, Option.bind_eq_some_iff, Fld.resolve_eq_some, Fld.optional_eq_some,
    Option.some.injEq] at h
  obtain ⟨_, h1, _, h2, _, h3, _, h4, _, h5, rfl⟩ := h
  refine ⟨h1, ?_, h3, h4, h5⟩
  obtain ⟨hc, rfl⟩ | ⟨c, hc, rfl⟩ := h2
  · exact .inl ⟨hc, rfl⟩
  · exact .inr ⟨c, hc, rfl⟩

/-- What a clear leaves at the place it clears: nothing, or the defaults of a table whose records are always present. -/
theorem Tables.readRecord_clearRecord_same (t : Tables) (table i : Nat) :
    (t.clearRecord table i).readRecord table i = match table with
      | 1 => some (.general {})
      | 2 => some (.node {})
      | 7 => some (.district {})
      | 11 => some (.berth {})
      | _ => none := by
  unfold clearRecord
  split <;> simp [readRecord, Tab.getD_erase, Tab.get?_erase]

theorem Tables.readRecord_clearRecord_other (t : Tables) {table i table' j : Nat} (hi : addressesRecord table i = true)
    (hj : addressesRecord table' j = true) (h : (table', j) ≠ (table, i)) :
    (t.clearRecord table i).readRecord table' j = t.readRecord table' j := by
  by_cases ht : table' = table
  · subst ht
    have hji : j ≠ i := fun e => h (by rw [e])
    have one : indexLimit table' ≠ 1 := fun e =>
      hji ((index_of_addressesRecord hj e).trans (index_of_addressesRecord hi e).symm)
    unfold clearRecord
    split
    case h_1 | h_8 => exact absurd rfl one
    all_goals simp [readRecord, Tab.getD_erase, Tab.get?_erase, hji]
  · unfold clearRecord
    split
    case h_12 => rfl
    all_goals
      unfold readRecord
      split <;> first | rfl | exact absurd rfl ht

/-- Settles O16: a write that is taken is a `store`, whose record is what the written fields resolve to. -/
theorem tableWriteReplacesOneRecord : Obligations.TableWriteReplacesOneRecord := by
  intro table index table' index' t hi hj
  refine ⟨fun r u hu => ?_, t.readRecord_clearRecord_other hi hj, t.readRecord_clearRecord_same table index⟩
  obtain ⟨v, hv, rfl, rfl⟩ := Tables.writeRecord_stores hu
  have same : (t.store index v).readRecord v.tableNumber index = some v := by simp [t.readRecord_store v hi hi]
  refine ⟨by simp [same], fun h => ?_, ?_⟩
  · rw [t.readRecord_store v hi hj, if_neg fun e => h (by rw [e.1, e.2])]
  rw [same]
  cases r <;> simp only [RawRecord.stored?, Option.map_eq_some_iff, ifInRange_eq_some] at hv
  case general f | track f | signal f | route f | district f | road f | script f =>
    obtain ⟨w, ⟨hw, hr⟩, rfl⟩ := hv
    exact ⟨w, rfl, hr, f.resolve_fields hw⟩
  case point f | turntable f =>
    obtain ⟨w, ⟨hw, hr⟩, rfl⟩ := hv
    exact ⟨w, rfl, hr, f.resolve_fields hw hr⟩
  case node f =>
    obtain ⟨k, hk, rfl⟩ := hv
    exact ⟨_, rfl, Fld.resolve_eq_some.1 hk⟩
  case berth f =>
    obtain ⟨w, ⟨⟨k, hk, rfl⟩, hr⟩, rfl⟩ := hv
    exact ⟨_, rfl, hr, Fld.resolve_eq_some.1 hk⟩

end Sys2Proof
end

section
/-! SUPPORT. The configuration check (1.13): the first failure of a pass is the first in the list of failures (R9), and the
tests of each record in their order. -/

namespace Sys2Proof

open Machine

/-! ## The first of several failures (R9) -/

/-- The failures that a test reports at a record, as a list. -/
theorem atRecord_toList (table index : Nat) (c : Option CheckCode) :
    c.toList.map (fun k => { code := k, table, index : CheckResult }) = (atRecord table index c).toList := by
  cases c <;> rfl

/-- R9: the check answers the first failure, and PASS where there is none. -/
theorem Tables.check_eq_firstFailure (t : Tables) (dmg : List (Nat × Nat)) :
    t.check dmg = (failures t dmg).head?.getD {} := by
  unfold Tables.check failures
  cases h : t.turntable <;>
    simp only [nodePass, trackPass, pointPass, signalPass, tablePass, routePass, districtPass, scriptPass, berthPass, h,
      atRecord_toList, List.head?_append, List.head?_flatMap, List.head?_nil, Option.head?_toList, List.findSome?_map,
      Function.comp_def, Option.orElse_eq_orElse, Option.orElse_eq_or, Option.or_assoc, Option.or_none]

/-! ## Tests in their order -/

/-- A demand whose Boolean test decides `p` comes first, and the other tests follow it. -/
theorem Machine.FirstFailing.cons {p : Prop} {b : Bool} {k : CheckCode} {rest : List (Prop × CheckCode)}
    {c : Option CheckCode} (hb : b = true ↔ p) (hc : p → FirstFailing rest c) :
    FirstFailing ((p, k) :: rest) (demand b k <|> c) := by
  constructor
  · intro hp
    have hb' : b = false := by simpa [hp] using hb
    simp [demand, hb']
  · intro hp
    simpa [demand, hb.2 hp] using hc hp

/-- A test that holds is passed over. -/
theorem Machine.FirstFailing.pass {p : Prop} {k : CheckCode} {rest : List (Prop × CheckCode)} {c : Option CheckCode}
    (hp : p) (hc : FirstFailing rest c) : FirstFailing ((p, k) :: rest) c :=
  ⟨fun h => absurd hp h, fun _ => hc⟩

/-- Two runs of tests, one after the other. -/
theorem Machine.FirstFailing.append {l m : List (Prop × CheckCode)} {c d : Option CheckCode} (hl : FirstFailing l c)
    (hm : FirstFailing m d) : FirstFailing (l ++ m) (c <|> d) := by
  induction l with
  | nil =>
    obtain rfl : c = none := hl
    exact hm
  | cons x l ih =>
    obtain ⟨fails, passes⟩ := hl
    exact ⟨fun h => by rw [fails h]; rfl, fun h => ih (passes h)⟩

/-- The same for the last test. -/
theorem Machine.FirstFailing.last {p : Prop} {b : Bool} {k : CheckCode} (hb : b = true ↔ p) :
    FirstFailing [(p, k)] (demand b k) := by
  have h : FirstFailing [(p, k)] (demand b k <|> none) := .cons hb fun _ => rfl
  rwa [Option.orElse_eq_orElse, Option.orElse_eq_or, Option.or_none] at h

@[simp] theorem Tab.has_iff {α : Type} (t : Tab α) (k : Nat) : t.has k = true ↔ t.get? k ≠ none := by
  simp [Tab.has, Option.isSome_iff_ne_none]

@[simp] theorem distinctNumbers_iff (l : List Nat) : distinctNumbers l = true ↔ l.Nodup := by
  induction l with
  | nil => simp [distinctNumbers]
  | cons k l ih => simp [distinctNumbers, ih]

namespace Tables

variable (t : Tables) (dmg : List (Nat × Nat)) (a : Nat)

theorem nodeTest_firstFailing : FirstFailing [
    ((2, a) ∉ dmg, .fieldRange),
    (¬ (t.nodeKind a = .panel ∧ ∃ b, 1 ≤ b ∧ b < a ∧ t.nodeKind b = .panel), .panelTwice),
    (¬ (t.nodeKind a = .board ∧ ∃ b, 1 ≤ b ∧ b < a ∧ t.nodeKind b = .board), .boardTwice)] (t.nodeTest dmg a) := by
  have lower (k : NodeKind) : ((List.range a).any fun b => t.nodeKind b == k && decide (1 ≤ b)) = true
      ↔ ∃ b, 1 ≤ b ∧ b < a ∧ t.nodeKind b = k := by
    simp only [List.any_eq_true, List.mem_range, Bool.and_eq_true, beq_iff_eq, decide_eq_true_eq]
    exact exists_congr fun b => ⟨fun ⟨h1, h2, h3⟩ => ⟨h3, h1, h2⟩, fun ⟨h1, h2, h3⟩ => ⟨h2, h3, h1⟩⟩
  have twice (k : NodeKind) : (!(t.nodeKind a == k && (List.range a).any fun b => t.nodeKind b == k && decide (1 ≤ b)))
      = true ↔ ¬ (t.nodeKind a = k ∧ ∃ b, 1 ≤ b ∧ b < a ∧ t.nodeKind b = k) := by
    rw [Bool.not_eq_true', ← Bool.not_eq_true, Bool.and_eq_true, beq_iff_eq, lower]
  exact .cons (by simp) fun _ => .cons (twice .panel) fun _ => .last (twice .board)

theorem tracksPresent_firstFailing : FirstFailing [(t.tracks ≠ [], .noSections)] t.tracksPresent :=
  .last (by simp)

/-- R12 test 3. -/
theorem tableLinksSuit_iff (r : TrackRec) : tableLinksSuit r = true ↔ match r.kind with
    | .plain => ∀ e, r.endA ≠ .table e ∧ r.endB ≠ .table e
    | .road => (r.endA = .table 0 ∧ ∀ e, r.endB ≠ .table e) ∨ (r.endB = .table 0 ∧ ∀ e, r.endA ≠ .table e)
    | .deck => (r.endA = .table 1 ∧ r.endB = .table 2) ∨ (r.endA = .table 2 ∧ r.endB = .table 1) := by
  unfold tableLinksSuit
  cases r.kind
  case deck => simp
  all_goals cases r.endA <;> cases r.endB <;> simp [forall_and]

/-- R12 test 5. -/
theorem linkTargetsPresent_iff (l : Link) : t.linkTargetsPresent l = true ↔
    (∀ u ∈ linkTracks l, t.tracks.get? u ≠ none) ∧ ∀ p n w, l = .point p n w → t.points.get? p ≠ none := by
  cases l <;> simp [linkTargetsPresent, linkTracks]

/-- R12 test 7. -/
theorem linkReturned_iff (l : Link) : t.linkReturned a l = true ↔
    (∀ u, l = .track u → ∃ v, t.tracks.get? u = some v ∧ (v.endA.names a = true ∨ v.endB.names a = true))
      ∧ ∀ p n w, l = .point p n w → ∀ u ∈ [n, w], ∃ v, t.tracks.get? u = some v
        ∧ (v.endA = .track a ∨ v.endB = .track a) := by
  cases l <;> simp [linkReturned, Option.any_eq_true]

theorem trackTest_firstFailing (r : TrackRec) : FirstFailing [
    (r.inRange = true ∧ (3, a) ∉ dmg, .fieldRange),
    (t.nodeKind r.detNode = .detect, .detectorNotDetect),
    (∀ e ∈ t.tracks, e.1 < a → e.2.detNode = r.detNode → e.2.detInput ≠ r.detInput, .detectorTwice),
    (match r.kind with
      | .plain => ∀ e, r.endA ≠ .table e ∧ r.endB ≠ .table e
      | .road => (r.endA = .table 0 ∧ ∀ e, r.endB ≠ .table e) ∨ (r.endB = .table 0 ∧ ∀ e, r.endA ≠ .table e)
      | .deck => (r.endA = .table 1 ∧ r.endB = .table 2) ∨ (r.endA = .table 2 ∧ r.endB = .table 1), .tableLinkKind),
    (r.kind = .deck → ∀ e ∈ t.tracks, e.1 < a → e.2.kind ≠ .deck, .deckTwice),
    (∀ l ∈ [r.endA, r.endB], (∀ u ∈ linkTracks l, t.tracks.get? u ≠ none)
      ∧ ∀ p n w, l = .point p n w → t.points.get? p ≠ none, .linkTargetAbsent),
    (a ∉ linkTracks r.endA ++ linkTracks r.endB ∧ (linkTracks r.endA ++ linkTracks r.endB).Nodup, .linkLoop),
    (∀ l ∈ [r.endA, r.endB],
      (∀ u, l = .track u → ∃ v, t.tracks.get? u = some v ∧ (v.endA.names a = true ∨ v.endB.names a = true))
      ∧ ∀ p n w, l = .point p n w → ∀ u ∈ [n, w], ∃ v, t.tracks.get? u = some v
        ∧ (v.endA = .track a ∨ v.endB = .track a), .linkNotReturned),
    (∀ e ∈ t.tracks, e.1 < a → ∀ p ∈ trackPoints e.2, p ∉ trackPoints r, .pointLinkTwice)] (t.trackTest dmg a r) := by
  have ends (p : Link → Prop) (b : Link → Bool) (h : ∀ l, b l = true ↔ p l) :
      (b r.endA && b r.endB) = true ↔ ∀ l ∈ [r.endA, r.endB], p l := by simp [h]
  exact .cons (by simp) fun _ => .cons (by simp) fun _ => .cons (by simp) fun _ => .cons (tableLinksSuit_iff r) fun _ =>
    .cons (by cases r.kind <;> simp) fun _ => .cons (ends _ _ t.linkTargetsPresent_iff) fun _ => .cons (by simp) fun _ =>
    .cons (ends _ _ (t.linkReturned_iff a)) fun _ => .last (by simp)

theorem pointTest_firstFailing (r : PointRec) : FirstFailing [
    (r.inRange = true ∧ (4, a) ∉ dmg, .fieldRange),
    (t.nodeKind r.drvNode = .point, .pointNotPointNode),
    (∀ e ∈ t.points, e.1 < a → e.2.drvNode = r.drvNode → e.2.drvChan ≠ r.drvChan, .pointChannelTwice),
    (∃ e ∈ t.tracks, a ∈ trackPoints e.2, .pointNoLink),
    (∃ v, t.tracks.get? r.track = some v ∧ a ∈ trackPoints v, .pointSectionWrong)] (t.pointTest dmg a r) :=
  .cons (by simp) fun _ => .cons (by simp) fun _ => .cons (by simp) fun _ => .cons (by simp) fun _ =>
    .last (by simp [Option.any_eq_true])

theorem signalTest_firstFailing (r : SignalRec) : FirstFailing [
    (r.inRange = true ∧ (5, a) ∉ dmg, .fieldRange),
    (t.nodeKind r.headNode = .signal, .signalNotSignalNode),
    (∀ e ∈ t.signals, e.1 < a → e.2.headNode = r.headNode → e.2.head ≠ r.head, .signalHeadTwice),
    (r.callOnHead = true → r.kind = .main3 ∨ r.kind = .main4, .callOnHeadKind)] (t.signalTest dmg a r) :=
  .cons (by simp) fun _ => .cons (by simp) fun _ => .cons (by simp) fun _ =>
    .last (by cases r.callOnHead <;> simp)

theorem turntableMatches_firstFailing : FirstFailing [
    ((t.turntable ≠ none ↔ ∃ e ∈ t.tracks, e.2.kind = .deck)
      ∧ (t.turntable = none → t.roads = [] ∧ ∀ e ∈ t.tracks, e.2.kind ≠ .road), .turntableDeckMismatch)]
    t.turntableMatches := by
  have deck : t.hasDeck = true ↔ ∃ e ∈ t.tracks, e.2.kind = .deck := by simp [hasDeck]
  refine .last ?_
  rw [← deck]
  cases t.turntable <;> cases t.hasDeck <;> simp

theorem turntableTest_firstFailing (r : TurntableRec) : FirstFailing [
    (r.inRange = true ∧ (8, 1) ∉ dmg, .fieldRange),
    (r.fullSteps * 2 ^ r.microShift % 2 = 0, .nOdd),
    (r.indexOffset < r.fullSteps * 2 ^ r.microShift, .indexOffsetRange),
    (r.slipTolerance ≤ r.fullSteps * 2 ^ r.microShift / 8, .slipToleranceLarge),
    (r.windingLimit = 0 ∨ r.fullSteps * 2 ^ r.microShift + r.backlash ≤ 2 * r.windingLimit, .windingLimitSmall),
    (r.startRate ≤ r.topRate, .rateOrder)] (turntableTest dmg r) := by
  unfold turntableTest TurntableRec.turn
  exact .cons (by simp) fun _ => .cons beq_iff_eq fun _ => .cons decide_eq_true_iff fun _ => .cons decide_eq_true_iff fun _ =>
    .cons (by simp) fun _ => .last decide_eq_true_iff

theorem roadTest_firstFailing (r : TurntableRec) (d : RoadRec) : FirstFailing [
    (d.inRange = true ∧ (9, a) ∉ dmg, .fieldRange),
    (d.position < r.fullSteps, .roadPositionRange),
    (∀ e ∈ t.roads, e.1 < a → e.2.position ≠ d.position, .roadPositionTwice),
    (∃ v, t.tracks.get? d.track = some v ∧ v.kind = .road, .roadSectionKind),
    (∀ e ∈ t.roads, e.1 < a → e.2.track ≠ d.track, .roadSectionTwice)] (t.roadTest dmg r a d) :=
  .cons (by simp) fun _ => .cons (by simp) fun _ => .cons (by simp) fun _ =>
    .cons (by simp [Option.any_eq_true]) fun _ => .last (by simp)

theorem roadUsed_firstFailing (r : TrackRec) :
    FirstFailing [(r.kind = .road → ∃ e ∈ t.roads, e.2.track = a, .roadSectionUnused)] (t.roadUsed a r) :=
  .last (by cases r.kind <;> simp)

/-! ## The tests of a route (R15, R16) -/

/-- R15 test 2. -/
theorem classSuits_iff (q : RouteRec) (x : SignalRec) : classSuits q x = true ↔
    (q.cls = .main → x.kind ≠ .shunt) ∧ (q.cls = .shunt → x.kind = .shunt) ∧ (q.cls = .callOn → x.callOnHead = true) := by
  unfold classSuits
  cases q.cls <;> simp

theorem endAdmitted_iff (e : DeckEnd) (a : EndsAllowed) : endAdmitted e a = true ↔
    a = .both ∨ (a = .end1 ∧ e = .end1) ∨ (a = .end2 ∧ e = .end2) := by
  cases a <;> simp [endAdmitted]

/-- R15 test 7. -/
theorem deckField_iff (q : RouteRec) :
    (q.deck.isSome == t.deckIndex.any q.path.contains && !t.deckIndex.any q.overlap.contains
      && (match q.deck with
        | some (r, e) => (t.roads.get? r).any fun road => endAdmitted e road.endsAllowed
        | none => true)) = true ↔
    (q.deck ≠ none ↔ ∃ k ∈ q.path, t.deckIndex = some k) ∧ (∀ k ∈ q.overlap, t.deckIndex ≠ some k)
      ∧ ∀ d, q.deck = some d → ∃ v, t.roads.get? d.1 = some v
        ∧ (v.endsAllowed = .both ∨ (v.endsAllowed = .end1 ∧ d.2 = .end1) ∨ (v.endsAllowed = .end2 ∧ d.2 = .end2)) := by
  have inPath (l : List Nat) : t.deckIndex.any l.contains = true ↔ ∃ k ∈ l, t.deckIndex = some k := by
    cases t.deckIndex <;> simp
  have offOverlap : (!t.deckIndex.any q.overlap.contains) = true ↔ ∀ k ∈ q.overlap, t.deckIndex ≠ some k := by
    rw [Bool.not_eq_true', ← Bool.not_eq_true, inPath]
    simp
  rw [Bool.and_eq_true, Bool.and_eq_true, beq_iff_eq, Bool.eq_iff_iff, inPath, offOverlap, and_assoc]
  cases q.deck <;> simp [Option.any_eq_true, endAdmitted_iff]

theorem routeReferences_firstFailing (q : RouteRec) : FirstFailing [
    (t.signals.get? q.entry ≠ none ∧ (q.exit = 0 ∨ t.signals.get? q.exit ≠ none) ∧ q.exit ≠ q.entry, .routeSignalAbsent),
    (∃ x, t.signals.get? q.entry = some x ∧ (q.cls = .main → x.kind ≠ .shunt) ∧ (q.cls = .shunt → x.kind = .shunt)
      ∧ (q.cls = .callOn → x.callOnHead = true), .routeClassSignal),
    (q.cls ≠ .main → 2 ≤ q.path.length, .routePathShort),
    ((∀ k ∈ q.path ++ q.overlap ++ q.approach, t.tracks.get? k ≠ none) ∧ (q.path ++ q.overlap).Nodup
      ∧ q.approach.Nodup ∧ ∀ k ∈ q.approach, k ∉ q.path ++ q.overlap, .routeSectionBad),
    (∀ y ∈ q.reqs, t.points.get? y.point ≠ none, .routePointAbsent),
    ((q.reqs.map (·.point)).Nodup, .routePointTwice),
    ((q.deck ≠ none ↔ ∃ k ∈ q.path, t.deckIndex = some k) ∧ (∀ k ∈ q.overlap, t.deckIndex ≠ some k)
      ∧ ∀ d, q.deck = some d → ∃ v, t.roads.get? d.1 = some v
        ∧ (v.endsAllowed = .both ∨ (v.endsAllowed = .end1 ∧ d.2 = .end1) ∨ (v.endsAllowed = .end2 ∧ d.2 = .end2)),
      .routeDeckField),
    (q.exit = 0 → q.overlap = [], .routeBufferExit)] (t.routeReferences q) := by
  refine .cons (by simp [and_assoc]) fun _ => .cons (by simp [Option.any_eq_true, classSuits_iff]) fun _ =>
    .cons (by cases q.cls <;> simp) fun _ => .cons ?_ fun _ => .cons (by simp) fun _ =>
    .cons (distinctNumbers_iff _) fun _ => .cons (t.deckField_iff q) fun _ =>
    .last (by by_cases h : q.exit = 0 <;> simp [h])
  simp only [Bool.and_eq_true, List.all_eq_true, Tab.has_iff, distinctNumbers_iff, and_assoc,
    List.forall_mem_append (l₁ := q.path ++ q.overlap)]
  simp

theorem positionOf_eq_ite (k : Nat) (l : List Nat) :
    positionOf k l = if k ∈ l then l.idxOf k + 1 else 0 := by
  induction l with
  | nil => rfl
  | cons j l ih =>
    by_cases hj : k = j
    · simp [positionOf, hj]
    · have hjk : (j == k) = false := beq_eq_false_iff_ne.2 (Ne.symm hj)
      have hidx : (j :: l).idxOf k = l.idxOf k + 1 := by rw [List.idxOf_cons, hjk, cond_false]
      have hmem : k ∈ j :: l ↔ k ∈ l := by rw [List.mem_cons, or_iff_right hj]
      rw [positionOf, if_neg hj, ih, hidx]
      by_cases hl : k ∈ l
      · rw [if_pos hl, if_pos (hmem.2 hl)]
      · rw [if_neg hl, if_neg (mt hmem.1 hl)]

/-- R16 test 4. -/
theorem rolesMatch_iff (q : RouteRec) (path overlap : List Nat) : rolesMatch q path overlap = true ↔
    (∀ z ∈ q.reqs, (z.role = .path → z.point ∈ path) ∧ (z.role = .overlap → z.point ∈ overlap)
      ∧ (z.role = .flank → z.point ∉ path ∧ z.point ∉ overlap))
    ∧ (∀ p ∈ path, ∃ z ∈ q.reqs, z.point = p ∧ z.role = .path)
    ∧ (∀ p ∈ overlap, ∃ z ∈ q.reqs, z.point = p ∧ z.role = .overlap) := by
  have role (z : Requirement) : (match z.role with
      | .path => path.contains z.point
      | .overlap => overlap.contains z.point
      | .flank => !path.contains z.point && !overlap.contains z.point) = true ↔
      (z.role = .path → z.point ∈ path) ∧ (z.role = .overlap → z.point ∈ overlap)
        ∧ (z.role = .flank → z.point ∉ path ∧ z.point ∉ overlap) := by
    cases z.role <;> simp
  unfold rolesMatch
  rw [Bool.and_eq_true, Bool.and_eq_true, and_assoc, List.all_eq_true]
  exact and_congr (forall₂_congr fun z _ => role z) (and_congr (by simp) (by simp))

/-- R16 test 5. -/
theorem releasesMatch_iff (q : RouteRec) (crossed : List (Nat × Nat)) : releasesMatch q crossed = true ↔
    ∀ z ∈ q.reqs,
      (z.role = .path → ∃ e, crossed.find? (fun e => e.1 == z.point) = some e ∧ e.2 ∈ q.path
        ∧ z.release = q.path.idxOf e.2 + 1)
      ∧ (z.role = .overlap → z.release = 0) ∧ (z.role = .flank → z.release ≤ q.path.length) := by
  have position (n k : Nat) : (n == positionOf k q.path && n != 0) = true ↔ k ∈ q.path ∧ n = q.path.idxOf k + 1 := by
    rw [positionOf_eq_ite]
    by_cases hk : k ∈ q.path <;> simp [hk]
    omega
  unfold releasesMatch
  rw [List.all_eq_true]
  refine forall₂_congr fun z _ => ?_
  cases z.role <;> simp [Option.any_eq_true, position]

/-- A walk has a last track piece. -/
theorem getLast?_of_pathWalk {q : RouteRec} {w : TrackEnd × List (Nat × Nat)} (h : t.pathWalk q = some w) :
    ∃ k, q.path.getLast? = some k := by
  cases hp : q.path with
  | nil => simp [pathWalk, hp, walkEither] at h
  | cons k l => exact ⟨_, List.getLast?_eq_some_getLast (List.cons_ne_nil k l)⟩

theorem routeWalkTest_firstFailing (q : RouteRec) : FirstFailing [
    (t.pathWalk q ≠ none, .routeNotAWalk),
    (∀ x c k, t.pathWalk q = some (x, c) → q.path.getLast? = some k → q.exit = 0 →
      ∃ v, t.tracks.get? k = some v ∧ v.link x = .buffer, .routeBufferExit),
    (∀ x c k, t.pathWalk q = some (x, c) → q.path.getLast? = some k → t.walkOn q k x q.overlap ≠ none,
      .routeOverlapNotAWalk),
    (∀ x c k y b, t.pathWalk q = some (x, c) → q.path.getLast? = some k → t.walkOn q k x q.overlap = some (y, b) →
      (∀ z ∈ q.reqs, (z.role = .path → z.point ∈ c.map (·.1)) ∧ (z.role = .overlap → z.point ∈ b.map (·.1))
        ∧ (z.role = .flank → z.point ∉ c.map (·.1) ∧ z.point ∉ b.map (·.1)))
      ∧ (∀ p ∈ c.map (·.1), ∃ z ∈ q.reqs, z.point = p ∧ z.role = .path)
      ∧ (∀ p ∈ b.map (·.1), ∃ z ∈ q.reqs, z.point = p ∧ z.role = .overlap), .routePointRole),
    (∀ x c k, t.pathWalk q = some (x, c) → q.path.getLast? = some k → ∀ z ∈ q.reqs,
      (z.role = .path → ∃ e, c.find? (fun e => e.1 == z.point) = some e ∧ e.2 ∈ q.path
        ∧ z.release = q.path.idxOf e.2 + 1)
      ∧ (z.role = .overlap → z.release = 0) ∧ (z.role = .flank → z.release ≤ q.path.length), .routeReleaseIndex)]
    (t.routeWalkTest q) := by
  unfold routeWalkTest
  cases hw : t.pathWalk q with
  | none => exact ⟨fun _ => rfl, fun h => absurd rfl h⟩
  | some w =>
    obtain ⟨x, crossed⟩ := w
    obtain ⟨last, hl⟩ := t.getLast?_of_pathWalk hw
    simp only [hl]
    refine .pass (by simp) (.cons (by by_cases h : q.exit = 0 <;> simp [h, Option.any_eq_true]) fun _ => ?_)
    cases ho : t.walkOn q last x q.overlap with
    | none => exact ⟨fun _ => rfl, fun h => absurd ho (h _ _ _ rfl rfl)⟩
    | some o =>
      obtain ⟨y, beyond⟩ := o
      refine .pass (by simp [ho]) (.cons ((rolesMatch_iff ..).trans ⟨fun h => ?_, fun h => h _ _ _ _ _ rfl rfl ho⟩)
        fun _ => .last (by simp [releasesMatch_iff]))
      rintro _ _ _ _ _ ⟨⟩ ⟨⟩ ho'
      cases ho.symm.trans ho'
      exact h

/-! ## The tests of a script and of a berth (R17) -/

theorem stepRefs_iff (y : ScriptStep) : t.stepRefs y = true ↔ match y with
    | .setRoute q | .cancelRoute q => t.routes.get? q ≠ none
    | .waitArrival k _ | .waitClear k _ => t.tracks.get? k ≠ none
    | .turnTable d e => t.turntable ≠ none ∧ ∃ v, t.roads.get? d = some v ∧ askedAdmitted e v.endsAllowed = true
    | .display _ _ | .pause _ => True := by
  cases y <;> simp [stepRefs, Option.any_eq_true, Option.isSome_iff_ne_none]

/-- R17: what the cancel steps of a list of steps name is among `set` or set by an earlier step. -/
theorem cancelsFollowSets_iff (set : List Nat) (steps : List ScriptStep) : cancelsFollowSets set steps = true ↔
    ∀ i q : Nat, steps[i]? = some (ScriptStep.cancelRoute q) →
      q ∈ set ∨ ∃ j, j < i ∧ steps[j]? = some (ScriptStep.setRoute q) := by
  induction steps generalizing set with
  | nil => simp [cancelsFollowSets]
  | cons y rest ih =>
    have later (i q : Nat) : (∃ j, j < i + 1 ∧ (y :: rest)[j]? = some (ScriptStep.setRoute q))
        ↔ y = .setRoute q ∨ ∃ j, j < i ∧ rest[j]? = some (ScriptStep.setRoute q) := by
      constructor
      · rintro ⟨_ | j, hj, h⟩
        · exact .inl (by simpa using h)
        · exact .inr ⟨j, by omega, by simpa using h⟩
      · rintro (rfl | ⟨j, hj, h⟩)
        · exact ⟨0, by omega, rfl⟩
        · exact ⟨j + 1, by omega, by simpa using h⟩
    rw [← Nat.and_forall_add_one]
    simp only [List.getElem?_cons_succ, List.getElem?_cons_zero, later]
    cases y
    case setRoute p => simp [cancelsFollowSets, ih, or_assoc, or_left_comm, eq_comm (a := p)]
    all_goals simp [cancelsFollowSets, ih]

theorem scriptTest_firstFailing (r : ScriptRec) : FirstFailing [
    (r.inRange = true ∧ (10, a) ∉ dmg, .fieldRange),
    (∀ e ∈ t.scripts, e.1 < a → e.2.button ≠ r.button, .scriptButtonTwice),
    (∀ y ∈ r.steps, (match y with
      | .setRoute q | .cancelRoute q => t.routes.get? q ≠ none
      | .waitArrival k _ | .waitClear k _ => t.tracks.get? k ≠ none
      | .turnTable d e => t.turntable ≠ none ∧ ∃ v, t.roads.get? d = some v ∧ askedAdmitted e v.endsAllowed = true
      | .display _ _ | .pause _ => True), .scriptRefBad),
    (∀ i q : Nat, r.steps[i]? = some (ScriptStep.cancelRoute q) →
      ∃ j, j < i ∧ r.steps[j]? = some (ScriptStep.setRoute q), .scriptCancelNotSet)] (t.scriptTest dmg a r) :=
  .cons (by simp) fun _ => .cons (by simp) fun _ =>
    .cons (List.all_eq_true.trans (forall₂_congr fun y _ => t.stepRefs_iff y)) fun _ =>
    .last (by simp [cancelsFollowSets_iff])

theorem berthTest_firstFailing (r : BerthRec) : FirstFailing [
    ((11, a) ∉ dmg ∧ r.inRange = true, .fieldRange),
    (r.track = 0 ∨ t.tracks.get? r.track ≠ none, .berthSectionAbsent)] (t.berthTest dmg a r) :=
  .cons (by simp [and_comm]) fun _ => .last (by simp)

/-! ## Touched-district sets (R19) -/

theorem mem_addNumber (k d : Nat) (l : List Nat) : d ∈ addNumber k l ↔ d = k ∨ d ∈ l := by
  induction l with
  | nil => simp [addNumber]
  | cons j l ih =>
    unfold addNumber
    split
    · simp
    · split
      · simp_all
      · simp [ih, or_left_comm]

theorem addNumber_rising (k : Nat) {l : List Nat} (h : l.Pairwise (· < ·)) : (addNumber k l).Pairwise (· < ·) := by
  induction l with
  | nil => simp [addNumber]
  | cons j l ih =>
    obtain ⟨hj, hl⟩ := List.pairwise_cons.1 h
    unfold addNumber
    split
    · rename_i hkj
      exact List.pairwise_cons.2 ⟨by simpa [hkj] using fun d hd => Nat.lt_trans hkj (hj d hd), h⟩
    · split
      · exact h
      · refine List.pairwise_cons.2 ⟨fun d hd => ?_, ih hl⟩
        rcases (mem_addNumber k d l).1 hd with rfl | hd
        · omega
        · exact hj d hd

theorem foldl_addNumber (l : List Nat) {m : List Nat} (h : m.Pairwise (· < ·)) :
    (l.foldl (fun acc k => addNumber k acc) m).Pairwise (· < ·)
      ∧ ∀ d, d ∈ l.foldl (fun acc k => addNumber k acc) m ↔ d ∈ l ∨ d ∈ m := by
  induction l generalizing m with
  | nil => exact ⟨h, by simp⟩
  | cons k l ih =>
    obtain ⟨rising, mem⟩ := ih (addNumber_rising k h)
    exact ⟨rising, fun d => by simp [mem, mem_addNumber, or_left_comm, or_assoc]⟩

theorem unionNumbers_nodup (l : List Nat) : (unionNumbers l).Nodup :=
  (foldl_addNumber l .nil).1.imp Nat.ne_of_lt

@[simp] theorem mem_unionNumbers (l : List Nat) (d : Nat) : d ∈ unionNumbers l ↔ d ∈ l :=
  ((foldl_addNumber l .nil).2 d).trans (by simp)

@[simp] theorem mem_districtOfTrack (k d : Nat) :
    d ∈ t.districtOfTrack k ↔ ∃ v, t.tracks.get? k = some v ∧ v.district = d := by
  simp [districtOfTrack]

/-- The district of the deck, of a layout that has one. -/
theorem mem_deckDistrict (d : Nat) : d ∈ t.deckIndex.toList.flatMap t.districtOfTrack
    ↔ ∃ k v, t.deckIndex = some k ∧ t.tracks.get? k = some v ∧ v.district = d := by
  simp [List.mem_flatMap]

theorem mem_routeSet (q : RouteRec) (d : Nat) : d ∈ t.routeSet q ↔
    (∃ k ∈ q.path ++ q.overlap, ∃ v, t.tracks.get? k = some v ∧ v.district = d)
    ∨ (∃ y ∈ q.reqs, ∃ v, t.points.get? y.point = some v ∧ v.district = d)
    ∨ (∃ v, t.signals.get? q.entry = some v ∧ v.district = d)
    ∨ (q.deck ≠ none ∧ ∃ k v, t.deckIndex = some k ∧ t.tracks.get? k = some v ∧ v.district = d) := by
  have deck : d ∈ (if q.deck.isSome then t.deckIndex.toList.flatMap t.districtOfTrack else [])
      ↔ q.deck ≠ none ∧ ∃ k v, t.deckIndex = some k ∧ t.tracks.get? k = some v ∧ v.district = d := by
    cases q.deck <;> simp
  unfold routeSet
  rw [mem_unionNumbers, List.mem_append, List.mem_append, List.mem_append, deck, ← List.flatMap_append]
  simp [or_assoc, or_and_right, exists_or]

theorem mem_scriptSet (r : ScriptRec) (d : Nat) : d ∈ t.scriptSet r ↔
    (∃ q rt, .setRoute q ∈ r.steps ∧ t.routes.get? q = some rt ∧ d ∈ t.routeSet rt)
    ∨ ((∃ x e, .turnTable x e ∈ r.steps)
      ∧ ∃ k v, t.deckIndex = some k ∧ t.tracks.get? k = some v ∧ v.district = d) := by
  rw [← t.mem_deckDistrict]
  unfold scriptSet
  rw [mem_unionNumbers, List.mem_flatMap]
  constructor
  · rintro ⟨y, hy, hd⟩
    cases y with
    | setRoute q =>
      obtain ⟨rt, hq, hd⟩ : ∃ rt, t.routes.get? q = some rt ∧ d ∈ t.routeSet rt := by
        cases h : t.routes.get? q <;> simp_all
      exact .inl ⟨q, rt, hy, hq, hd⟩
    | turnTable x e => exact .inr ⟨⟨x, e, hy⟩, hd⟩
    | _ => cases hd
  · rintro (⟨q, rt, hy, hq, hd⟩ | ⟨⟨x, e, hy⟩, hd⟩)
    · exact ⟨_, hy, by simpa [hq] using hd⟩
    · exact ⟨_, hy, hd⟩

end Tables

theorem Tab.get?_map {α β : Type} (f : α → β) (t : Tab α) (k : Nat) :
    Tab.get? (t.map fun e => (e.1, f e.2)) k = (t.get? k).map f := by
  induction t with
  | nil => rfl
  | cons e t ih =>
    simp only [List.map_cons, Tab.get?, ih]
    split <;> rfl

/-- Settles O19, from the order of the passes, the tests of each record and the members of the sets. -/
theorem checkFindsTheFirstFailure : Obligations.CheckFindsTheFirstFailure := fun t dmg a =>
  ⟨t.check_eq_firstFailure dmg, t.nodeTest_firstFailing dmg a, t.tracksPresent_firstFailing,
    t.trackTest_firstFailing dmg a, t.pointTest_firstFailing dmg a, t.signalTest_firstFailing dmg a,
    t.turntableMatches_firstFailing,
    fun r => ⟨Tables.turntableTest_firstFailing dmg r, t.roadTest_firstFailing dmg a r⟩,
    t.roadUsed_firstFailing a,
    fun q => .cons (by simp) fun _ => (t.routeReferences_firstFailing q).append (t.routeWalkTest_firstFailing q),
    t.scriptTest_firstFailing dmg a, t.berthTest_firstFailing dmg a,
    fun q d => ⟨Tables.unionNumbers_nodup _, t.mem_routeSet q d⟩,
    fun r d => ⟨Tables.unionNumbers_nodup _, t.mem_scriptSet r d⟩,
    fun k => ⟨Tab.get?_map t.routeSet t.routes k, Tab.get?_map t.scriptSet t.scripts k⟩⟩

end Sys2Proof
end

section
/-! SUPPORT. Which of the stored things (the tables with their touched-district sets, the districts' records, the serial memory
and the event mask) a command leaves as they are. `Kept` says it of an event's course; here stand the requests, the modes and
the shapes of a meaning. -/

namespace Sys2Proof.Machine

/-! ## Requests that leave what `Kept` names -/

namespace Kept

variable {s u : State}

@[simp] theorem answer (h : Kept s u) (r : ResultCode) : Kept s (answer r u).1 := h

@[simp] theorem reports (h : Kept s u) (b : ReplyBody) : Kept s (reports b u).1 := h

@[simp] theorem effect (h : Kept s u) (r : ResultCode) : Kept s (effect r u).1 := h.finish

theorem decided {r : State × ResultCode} (h : Kept s r.1) : Kept s (decided r).1 := by
  unfold Machine.decided
  split
  · exact h.effect _
  · exact h

theorem routeDecision {r : State × RouteReply} (h : Kept s r.1) : Kept s (routeDecision r).1 := by
  unfold Machine.routeDecision
  dsimp only
  split
  · exact h.finish
  · exact h

theorem ownTrainInterpose (h : Kept s u) (code : List Byte) (track direction cls shown origin : Byte) :
    Kept s (ownTrainInterpose code track direction cls shown origin u).1 := by
  unfold Machine.ownTrainInterpose
  (repeat' split) <;> simp [h]

theorem ownTrainCancel (h : Kept s u) (code : List Byte) (origin : Byte) : Kept s (ownTrainCancel code origin u).1 := by
  unfold Machine.ownTrainCancel
  (repeat' split) <;> simp [h]

theorem ownVisitorEnable (h : Kept s u) (setting origin : Byte) : Kept s (ownVisitorEnable setting origin u).1 := by
  unfold Machine.ownVisitorEnable
  (repeat' split) <;> simp [h]

theorem ownMessagePut (h : Kept s u) (slot : Byte) (text : List Byte) : Kept s (ownMessagePut slot text u).1 := by
  unfold Machine.ownMessagePut
  split <;> simp [h]

theorem ownRotationSet (h : Kept s u) (slots : List Byte) : Kept s (ownRotationSet slots u).1 := by
  unfold Machine.ownRotationSet
  dsimp only
  split <;> simp [h]

end Kept

/-! ## Queries change nothing -/

theorem ownTableRead_state (table index : Byte) (s : State) : (ownTableRead table index s).1 = s := by
  unfold ownTableRead
  (repeat' split) <;> rfl

theorem ownRouteStatus_state (route : Byte) (s : State) : (ownRouteStatus route s).1 = s := by
  unfold ownRouteStatus
  (repeat' split) <;> rfl

theorem ownSectionStatus_state (track : Byte) (s : State) : (ownSectionStatus track s).1 = s := by
  unfold ownSectionStatus
  (repeat' split) <;> rfl

theorem ownPointStatus_state (point : Byte) (s : State) : (ownPointStatus point s).1 = s := by
  unfold ownPointStatus
  (repeat' split) <;> rfl

theorem ownSignalStatus_state (x : Byte) (s : State) : (ownSignalStatus x s).1 = s := by
  unfold ownSignalStatus
  (repeat' split) <;> rfl

theorem ownDistrictStatus_state (d : Byte) (s : State) : (ownDistrictStatus d s).1 = s := by
  unfold ownDistrictStatus
  split <;> rfl

theorem ownTrainStatus_state (x : TrainSelector) (s : State) : (ownTrainStatus x s).1 = s := by
  have train (n : Option Nat) : (answerTrain n s).1 = s := by
    unfold answerTrain
    (repeat' split) <;> rfl
  unfold ownTrainStatus
  (repeat' split) <;> first | rfl | exact train _

theorem ownTableStatus_state (s : State) : (ownTableStatus s).1 = s := by
  unfold ownTableStatus
  split <;> rfl

theorem ownNodeStatus_state (a : Byte) (s : State) : (ownNodeStatus a s).1 = s := by
  unfold ownNodeStatus
  split <;> rfl

/-! ## The stored things that a command may not change -/

/-- Of the stored things, those that command `c` may not change stand in `t` as in `s`. -/
structure StoredKept (c : Instr) (s t : State) : Prop where
  tables : changesTables c = false → t.lts.tables = s.lts.tables ∧ t.lts.routeSets = s.lts.routeSets
    ∧ t.lts.scriptSets = s.lts.scriptSets
  dat : changesDistricts c = false → t.dat = s.dat
  serial : changesMemory c = false → t.serial = s.serial
  mask : changesMask c = false → t.hl.mask = s.hl.mask

namespace StoredKept

variable {c : Instr} {s u t : State}

theorem refl (s : State) : StoredKept c s s := ⟨fun _ => ⟨rfl, rfl, rfl⟩, fun _ => rfl, fun _ => rfl, fun _ => rfl⟩

theorem trans (h : StoredKept c s u) (k : StoredKept c u t) : StoredKept c s t where
  tables e :=
    have ⟨h1, h2, h3⟩ := h.tables e
    have ⟨k1, k2, k3⟩ := k.tables e
    ⟨k1.trans h1, k2.trans h2, k3.trans h3⟩
  dat e := (k.dat e).trans (h.dat e)
  serial e := (k.serial e).trans (h.serial e)
  mask e := (k.mask e).trans (h.mask e)

/-- The course of an event leaves everything stored as it is. -/
theorem of_kept (k : Kept s t) : StoredKept c s t where
  tables _ := by rw [k.lts]; exact ⟨rfl, rfl, rfl⟩
  dat _ := k.dat
  serial _ := k.serial
  mask _ := by
    obtain ⟨l, hl⟩ := k.hl
    rw [hl, Hl.raised_others]

theorem kept (h : StoredKept c s u) (k : Kept u t) : StoredKept c s t := h.trans (of_kept k)

theorem of_state_eq (h : t = s) : StoredKept c s t := by
  rw [h]
  exact refl s

/-! ### Changes of single blocks -/

theorem setHl (h : StoredKept c s u) (l : Hl) (e : changesMask c = false → l.mask = u.hl.mask) :
    StoredKept c s (u.setHl l) := h.trans ⟨fun _ => ⟨rfl, rfl, rfl⟩, fun _ => rfl, fun _ => rfl, e⟩

theorem setLts (h : StoredKept c s u) (l : Lts) (e : changesTables c = false → l.tables = u.lts.tables
      ∧ l.routeSets = u.lts.routeSets ∧ l.scriptSets = u.lts.scriptSets) : StoredKept c s (u.setLts l) :=
  h.trans ⟨e, fun _ => rfl, fun _ => rfl, fun _ => rfl⟩

theorem setDat (h : StoredKept c s u) (l : Tab DistrictWork) (e : changesDistricts c = true) :
    StoredKept c s { u with dat := l } :=
  h.trans ⟨fun _ => ⟨rfl, rfl, rfl⟩, fun f => absurd (e.symm.trans f) (by decide), fun _ => rfl, fun _ => rfl⟩

theorem setDistrict (h : StoredKept c s u) (d : Nat) (w : DistrictWork) (e : changesDistricts c = true) :
    StoredKept c s (u.setDistrict d w) := h.setDat _ e

theorem setSerial (h : StoredKept c s u) (x : SerialImage) (e : changesMemory c = true) :
    StoredKept c s { u with serial := x } :=
  h.trans ⟨fun _ => ⟨rfl, rfl, rfl⟩, fun _ => rfl, fun f => absurd (e.symm.trans f) (by decide), fun _ => rfl⟩

/-- A command that may change the tables may change LTS's record as it will. -/
theorem setTables (h : StoredKept c s u) (l : Lts) (e : changesTables c = true) : StoredKept c s (u.setLts l) :=
  h.setLts l fun f => absurd (e.symm.trans f) (by decide)

/-- The time base, the event in progress and the blocks below the host link may change. -/
theorem side (h : StoredKept c s u) (t : State) (h1 : t.lts = u.lts) (h2 : t.dat = u.dat) (h3 : t.serial = u.serial)
    (h4 : t.hl = u.hl) : StoredKept c s t :=
  h.trans ⟨fun _ => by rw [h1]; exact ⟨rfl, rfl, rfl⟩, fun _ => h2, fun _ => h3, fun _ => by rw [h4]⟩

theorem enterMode (h : StoredKept c s u) (m : Mode) (k : ModeCause) : StoredKept c s (enterMode m k u) :=
  (h.kept (Kept.raise (.refl u) _)).setLts _ fun _ => ⟨rfl, rfl, rfl⟩

theorem finish (h : StoredKept c s u) : StoredKept c s (finish u) := h.kept (Kept.refl u).finish

/-- An effect of an expiry, on the state whose time base has come to its timer's time. -/
theorem reached {e : Nat} (k : Kept (s.reach e) t) : StoredKept c s t := ((refl s).side (s.reach e) rfl rfl rfl rfl).kept k

/-! ### The shapes of a meaning -/

theorem act {f : State → State} (hf : StoredKept c s (f s)) (h : act f s = .next t) : StoredKept c s t := by
  unfold Machine.act at h
  split at h <;> cases h
  · exact refl s
  · exact hf

theorem actOn {α : Type} {g : State → Option α} {f : α → State → State} (hf : ∀ a, StoredKept c s (f a s))
    (h : actOn g f s = .next t) : StoredKept c s t := by
  rcases actOn_cases g f s with e | ⟨a, -, e⟩ <;> cases e.symm.trans h
  · exact refl s
  · exact (hf a).finish

theorem frameTaken (s : State) : StoredKept c s (frameTaken s) := (refl s).setHl _ fun _ => rfl

/-- A frame that is taken leaves what its request's decision leaves. -/
theorem takeFrame (kind : Byte) {judge : State → Decision} (hj : ∀ u, StoredKept c u (judge u).1) (s : State) :
    StoredKept c s (takeFrame kind judge s) := by
  have taken := StoredKept.frameTaken (c := c) s
  unfold Machine.takeFrame
  dsimp only
  split
  · exact taken.setHl _ fun _ => rfl
  · refine ((taken.setHl _ ?_).trans (hj _)).setHl _ ?_ <;> exact fun _ => rfl

theorem serve {kind : Byte} {owner : State → Decision} (ho : ∀ u, StoredKept c u (owner u).1)
    (h : serve kind owner s = .next t) : StoredKept c s t := by
  refine act (takeFrame kind (fun u => ?_) s) h
  unfold letThrough
  split
  · exact refl u
  · exact ho u

/-! ### The decisions of the requests that change more -/

theorem effect (h : StoredKept c s u) (r : ResultCode) : StoredKept c s (effect r u).1 := h.finish

theorem enterChecking (h : StoredKept c s u) (x : CheckSource) : StoredKept c s (enterChecking x u) :=
  (h.enterMode _ _).setLts _ fun _ => ⟨rfl, rfl, rfl⟩

theorem ownConfigure (s : State) : StoredKept c s (ownConfigure s).1 := by
  have entered := (refl (c := c) s).enterMode .configuring .request
  unfold Machine.ownConfigure
  split
  · exact entered.effect _
  · exact (entered.kept (by simp)).effect _
  · exact refl s

theorem ownCommit (s : State) : StoredKept c s (ownCommit s).1 := by
  unfold Machine.ownCommit
  split
  · exact ((refl s).enterChecking _).effect _
  · exact refl s

theorem ownReload (s : State) : StoredKept c s (ownReload s).1 := by
  have entered := (refl (c := c) s).enterChecking .reload
  unfold Machine.ownReload
  (repeat' split)
  case h_1.isFalse | h_2.isFalse => exact entered.effect _
  case h_3.isFalse => exact (entered.kept (by simp)).effect _
  all_goals exact refl s

theorem ownStart (s : State) : StoredKept c s (ownStart s).1 := by
  have entered := (refl (c := c) s).enterMode .running .request
  unfold Machine.ownStart
  (repeat' split)
  · exact refl s
  · exact refl s
  · exact (entered.kept (by simp)).effect _

theorem ownStop (s : State) : StoredKept c s (ownStop s).1 := by
  have entered := (refl (c := c) s).enterMode .stopping .request
  unfold Machine.ownStop
  split
  · exact (entered.kept (((Kept.refl _).deriveAll true).closeVisitors _).dropAllHeld).effect _
  all_goals exact refl s

theorem enterHalted (h : StoredKept c s u) (k : ModeCause) : StoredKept c s (enterHalted k u) :=
  (h.enterMode .halted k).kept
    (((Kept.refl _).deriveAll true).closeVisitors .halted).abandonThrows.haltTable.freezeRoutes

theorem ownHalt (s : State) : StoredKept c s (ownHalt s).1 := by
  unfold Machine.ownHalt
  split
  case h_1 | h_2 => exact ((refl s).enterHalted _).effect _
  all_goals exact refl s

/-- R182: a warm restart changes the districts' records alone. -/
theorem warmRestart (h : StoredKept c s u) (e : changesDistricts c = true) : StoredKept c s (warmRestart u) := by
  have entered := (h.setHl { u.hl with queue := [], dropped := 0 } fun _ => rfl).enterMode .ready .restart
  have stopped := entered.kept ((Kept.refl _).clearRoutes.deriveAll true).abandonThrows.haltTable
  exact (stopped.setDat _ e).kept (Kept.refl _).restartVisitors

theorem ownRestart (s : State) (e : changesDistricts c = true) : StoredKept c s (ownRestart s).1 := by
  have restarted := ((refl (c := c) s).warmRestart e).effect .ok
  unfold Machine.ownRestart
  (repeat' split)
  case h_5 | h_4.isTrue => exact refl s
  all_goals exact restarted

theorem ownStore (s : State) (e : changesMemory c = true) : StoredKept c s (ownStore s).1 := by
  unfold Machine.ownStore
  (repeat' split)
  · exact refl s
  · exact refl s
  · have storing := (refl (c := c) s).setLts { s.lts with storing := some s.tables } fun _ => ⟨rfl, rfl, rfl⟩
    exact (storing.setSerial .damaged e).effect _

theorem ownTableWrite (table index : Byte) (f : WriteForm) (s : State) (e : changesTables c = true) :
    StoredKept c s (ownTableWrite table index f s).1 := by
  have written (t : Tables) : StoredKept c s (Machine.setTables t s) := (refl s).setTables _ e
  unfold Machine.ownTableWrite
  (repeat' split) <;> first | exact refl s | exact written _

theorem ownEventMask (m : BitVec 16) (s : State) (e : changesMask c = true) : StoredKept c s (ownEventMask m s).1 :=
  (refl s).setHl _ fun f => absurd (e.symm.trans f) (by decide)

theorem ownDistrictAssign (d owner shared cls origin : Byte) (s : State) (e : changesDistricts c = true) :
    StoredKept c s (ownDistrictAssign d owner shared cls origin s).1 := by
  have assigned (d owner : Nat) (sh : Bool) (v : VisitorClass) : StoredKept c s (assignDistrict d owner sh v s) :=
    ((refl s).setDistrict _ _ e).side _ rfl rfl rfl rfl
  unfold Machine.ownDistrictAssign judgeAssign
  dsimp only
  (repeat' split) <;> first | exact refl s | exact (assigned ..).effect _

theorem ownDistrictTake (d origin : Byte) (s : State) (e : changesDistricts c = true) :
    StoredKept c s (ownDistrictTake d origin s).1 := by
  have taken (desk : Nat) : StoredKept c s (takeDistrict d.toNat desk s) :=
    ((refl s).setDistrict _ _ e).kept ((Kept.refl _).raise _)
  unfold Machine.ownDistrictTake
  (repeat' split) <;> first | exact refl s | exact (taken _).effect _

theorem ownDistrictGiveBack (d origin : Byte) (s : State) (e : changesDistricts c = true) :
    StoredKept c s (ownDistrictGiveBack d origin s).1 := by
  have given : StoredKept c s (giveBackDistrict d.toNat (originOf origin) s) :=
    ((refl s).setDistrict _ _ e).side _ rfl rfl rfl rfl
  unfold Machine.ownDistrictGiveBack
  (repeat' split) <;> first | exact refl s | exact given.effect _

theorem ownVisitorDefault (setting origin : Byte) (s : State) (e : changesTables c = true) :
    StoredKept c s (ownVisitorDefault setting origin s).1 := by
  have stored (on : Bool) : StoredKept c s (storeEnable on s) := (refl s).setTables _ e
  unfold Machine.ownVisitorDefault
  (repeat' split)
  · exact refl s
  · exact refl s
  · exact ((stored true).kept ((Kept.refl _).setEnable true)).effect _
  · exact (stored false).effect _

theorem ownSignalReminder (x setting origin : Byte) (s : State) : StoredKept c s (ownSignalReminder x setting origin s).1 := by
  have set (x : Nat) (on : Bool) : StoredKept c s (setReminder x on s).1 := by
    unfold setReminder
    split
    · exact refl s
    · exact (((refl s).side (s.setSignal x _) rfl rfl rfl rfl).kept ((Kept.refl _).deriveAll false)).effect _
  unfold Machine.ownSignalReminder
  split <;> first | exact refl s | exact set _ _

/-! ### The end of a check, of a STORE and the E-stop input -/

theorem checkDone (h : StoredKept c s u) (r : ImageResult) (x : CheckResult) : StoredKept c s (checkDone r x u) :=
  (h.kept ((Kept.refl u).raise _)).setLts _ fun _ => ⟨rfl, rfl, rfl⟩

theorem enterConfigured (h : StoredKept c s u) (e : changesTables c = true) (d : changesDistricts c = true) :
    StoredKept c s (enterConfigured u) :=
  (((h.setTables _ e).enterMode .ready .check).setDat _ d).kept (Kept.refl _).startLoop

theorem enterUnconfigured (h : StoredKept c s u) (e : changesTables c = true) : StoredKept c s (enterUnconfigured u) :=
  (h.setTables _ e).enterMode .unconfigured .check

theorem readImage (f : ImageFound) (s : State) : StoredKept c s (readImage f s).2 := by
  unfold Machine.readImage
  (repeat' split) <;> first | exact refl s | exact (refl s).side _ rfl rfl rfl rfl

theorem copyEnable (h : StoredKept c s u) (b : Bool) : StoredKept c s (if b then copyEnable u else u) := by
  split
  · exact h.side _ rfl rfl rfl rfl
  · exact h

theorem finishLoad (f : ImageFound) (s : State) (e : changesTables c = true) (d : changesDistricts c = true) :
    StoredKept c s (finishLoad f s) := by
  have read := readImage (c := c) f s
  unfold Machine.finishLoad
  generalize Machine.readImage f s = r at read
  obtain ⟨g, v⟩ := r
  refine copyEnable ?_ _
  split
  · split
    · exact ((read.checkDone _ _).setTables _ e).enterConfigured e d
    · exact (read.checkDone _ _).enterUnconfigured e
  · exact (read.checkDone _ _).enterUnconfigured e

theorem finishCommit (s : State) (e : changesTables c = true) (d : changesDistricts c = true) :
    StoredKept c s (finishCommit s) := by
  have done (x : CheckResult) := (refl (c := c) s).checkDone .notRead x
  unfold Machine.finishCommit
  dsimp only
  split
  · exact (done _).enterConfigured e d
  · exact ((done _).setTables _ e).enterMode _ _

theorem finishStore (t : Tables) (ok : Bool) (s : State) (e : changesMemory c = true) :
    StoredKept c s (finishStore t ok s) := by
  have ended := (refl (c := c) s).setLts { s.lts with storing := none } fun _ => ⟨rfl, rfl, rfl⟩
  unfold Machine.finishStore
  dsimp only
  split <;> exact (ended.setSerial _ e).kept ((Kept.refl _).raise _)

theorem endStopping (s : State) : StoredKept c s (endStopping s) :=
  ((refl s).enterMode .ready .stoppingEnd).kept ((Kept.refl _).abandonThrows.clearRoutes.deriveAll true)

theorem assertEstop (s : State) : StoredKept c s (assertEstop s) := by
  have asserted := (refl (c := c) s).setLts { s.lts with estop := true } fun _ => ⟨rfl, rfl, rfl⟩
  unfold Machine.assertEstop
  dsimp only
  split
  · exact asserted.enterHalted _
  · exact asserted.kept ((Kept.refl _).deriveAll false)

theorem releaseEstop (s : State) : StoredKept c s (deriveAll false (s.setLts { s.lts with estop := false })) :=
  ((refl s).setLts { s.lts with estop := false } fun _ => ⟨rfl, rfl, rfl⟩).kept ((Kept.refl _).deriveAll false)

/-! ### Every command -/

/-- What a request's owner decides changes no more than the request may. -/
theorem owner {owner : State → Decision} (h : ownerOf c = some owner) (s : State) : StoredKept c s (owner s).1 := by
  cases c <;> simp only [ownerOf, reduceCtorEq, Option.some.injEq] at h <;> subst h
  case identify | getMode | visitorStatus => exact refl s
  case configure => exact ownConfigure s
  case tableWrite table index f => exact ownTableWrite table index f s rfl
  case tableRead table index => exact of_state_eq (ownTableRead_state table index s)
  case commit => exact ownCommit s
  case store => exact ownStore s rfl
  case reload => exact ownReload s
  case start => exact ownStart s
  case stop => exact ownStop s
  case halt => exact ownHalt s
  case restart => exact ownRestart s rfl
  case eventMask m => exact ownEventMask m s rfl
  case eventHold | eventResume => exact (refl s).setHl _ fun _ => rfl
  case routeSet => exact of_kept (Kept.routeDecision (by simp))
  case routeCancel | routeForceRelease | pointThrow | tableHome | tableMove | tableStop | tableHalt =>
    exact of_kept (Kept.decided (by simp))
  case routeStatus route => exact of_state_eq (ownRouteStatus_state route s)
  case sectionStatus track => exact of_state_eq (ownSectionStatus_state track s)
  case pointStatus point => exact of_state_eq (ownPointStatus_state point s)
  case signalReminder x setting origin => exact ownSignalReminder x setting origin s
  case signalStatus x => exact of_state_eq (ownSignalStatus_state x s)
  case districtAssign d owner shared cls origin => exact ownDistrictAssign d owner shared cls origin s rfl
  case districtTake d origin => exact ownDistrictTake d origin s rfl
  case districtGiveBack d origin => exact ownDistrictGiveBack d origin s rfl
  case districtStatus d => exact of_state_eq (ownDistrictStatus_state d s)
  case trainInterpose => exact of_kept ((Kept.refl s).ownTrainInterpose ..)
  case trainCancel => exact of_kept ((Kept.refl s).ownTrainCancel ..)
  case trainStatus x => exact of_state_eq (ownTrainStatus_state x s)
  case tableStatus => exact of_state_eq (ownTableStatus_state s)
  case visitorEnable => exact of_kept ((Kept.refl s).ownVisitorEnable ..)
  case visitorDefault setting origin => exact ownVisitorDefault setting origin s rfl
  case messagePut => exact of_kept ((Kept.refl s).ownMessagePut ..)
  case rotationSet => exact of_kept ((Kept.refl s).ownRotationSet ..)
  case nodeStatus a => exact of_state_eq (ownNodeStatus_state a s)

/-- A command may change everything that it is listed for. -/
theorem of_changesAll (ht : changesTables c = true) (hd : changesDistricts c = true) (hm : changesMemory c = true)
    (hk : changesMask c = true) : StoredKept c s t where
  tables e := absurd (ht.symm.trans e) (by decide)
  dat e := absurd (hd.symm.trans e) (by decide)
  serial e := absurd (hm.symm.trans e) (by decide)
  mask e := absurd (hk.symm.trans e) (by decide)

/-- BOLT_IN_CHANGE: the level of the pin, and what TTC makes of it. -/
theorem takeBolt (level : Bool) (s : State) : StoredKept c s (takeBolt level s) := by
  unfold Machine.takeBolt
  split <;> exact of_kept (by simp)

/-- Every command: a request by its owner's decision, another command by its own meaning. -/
theorem exec (h : exec c s = .next t) : StoredKept c s t := by
  cases hk : requestKind c with
  | some kind =>
    obtain ⟨owner, ho⟩ := ownerOf_request hk
    rw [exec_request hk ho] at h
    exact serve (StoredKept.owner ho) h
  | none =>
    cases c <;> simp only [requestKind, reduceCtorEq] at hk <;> dsimp only [Machine.exec] at h
    case coldStart | resetNAsserted | hostByteReceived => exact of_changesAll rfl rfl rfl rfl
    case imageLoadDone f => exact actOn (fun _ => finishLoad f s rfl rfl) h
    case commitCheckDone => exact actOn (fun _ => finishCommit s rfl rfl) h
    case storeDone ok => exact actOn (fun x => finishStore x ok s rfl) h
    case estopAsserted => exact actOn (fun _ => assertEstop s) h
    case estopReleased => exact actOn (fun _ => releaseEstop s) h
    case stoppingEnd => exact actOn (fun _ => endStopping s) h
    case hostFrameDiscarded | frameGapTimeout => exact act (frameTaken s) h
    case requestLost =>
      refine act ?_ h
      split
      · exact (frameTaken s).setHl _ fun _ => rfl
      · exact refl s
    case badKindOrLength kind n =>
      refine act ?_ h
      (repeat' split) <;> first | exact refl s | exact takeFrame kind refl s
    case replyTransmit | eventTransmit | frameTransmitDone =>
      refine act ?_ h
      dsimp only
      (repeat' split) <;> first | exact refl s | exact (refl s).setHl _ fun _ => rfl
    case fieldFrameSent => exact act (of_kept (by simp)) h
    case fieldFrameDiscarded => exact act (refl s) h
    case boltInChange level =>
      refine act ?_ h
      split
      · exact refl s
      · exact takeBolt level s
    case heldRouteRescan =>
      exact actOn (fun _ => ((refl s).side { s with rescanDue := false } rfl rfl rfl rfl).kept (by simp)) h
    case fieldReplyReceived | throwOrderTaken | restoreUnwind | indexEdge | scriptStart =>
      exact actOn (fun _ => of_kept (by simp)) h
    case visitorWaitExpired => exact actOn (fun v => reached (e := v.expiresAt) (by simp)) h
    case replyWindowExpired => exact actOn (fun x => reached (e := x.windowAt) (by simp)) h
    case overrideExpired => exact actOn (fun e => reached (e := e.2) (by simp)) h
    all_goals exact actOn (fun e => reached (e := e) (by simp)) h

end StoredKept

/-- Settles O9, from what every command leaves as it is. -/
theorem storedThingsChangeByTheirCommandsOnly : Obligations.StoredThingsChangeByTheirCommandsOnly := fun _ _ _ h =>
  have ⟨tables, dat, serial, mask⟩ := StoredKept.exec h
  ⟨tables, dat, serial, mask⟩

end Sys2Proof.Machine
end

section
/-! SUPPORT. What the base check reads (R55), and what the checks built on it give (R56, R57, R58). -/

namespace Sys2Proof.Machine

/-! ## The base check -/

theorem DistrictWork.base_desk_iff (w : DistrictWork) (d : Nat) :
    w.base (.desk d) = true ↔ w.owner = d ∨ w.shared = true ∨ w.owner = 0 := by
  simp [DistrictWork.base, or_assoc]

theorem DistrictWork.base_visitor_iff (w : DistrictWork) : w.base .visitor = true ↔
    w.visitorClass = .opened ∨ (w.visitorClass = .openUnattended ∧ w.owner = 0) := by
  simp [DistrictWork.base]

@[simp] theorem DistrictWork.base_releaseHolder (w : DistrictWork) (n : Nat) (o : Origin) :
    ({ w with releaseHolder := n } : DistrictWork).base o = w.base o := by
  cases o <;> rfl

@[simp] theorem DistrictWork.released_iff (w : DistrictWork) : w.released = true ↔ w.releaseHolder ≠ 0 := by
  simp [DistrictWork.released]

/-! ## The check over a set of districts -/

section
variable {s : State} {o : Origin} {set : List Nat}

theorem State.setCheck_noAuthority_iff :
    s.setCheck o set = .noAuthority ↔ ∃ d ∈ set, (s.district d).base o = false := by
  unfold State.setCheck
  split
  next hall =>
    have : ¬ ∃ d ∈ set, (s.district d).base o = false := by simpa using hall
    split <;> simp [this]
  next hall => simpa using hall

theorem State.setCheck_localRelease_iff : s.setCheck o set = .localRelease ↔
    (∀ d ∈ set, (s.district d).base o = true) ∧ ∃ d ∈ set, (s.district d).releaseHolder ≠ 0 := by
  unfold State.setCheck
  split
  next hall =>
    have : ∀ d ∈ set, (s.district d).base o = true := by simpa using hall
    simp +contextual [this]
  next hall =>
    have : ¬ ∀ d ∈ set, (s.district d).base o = true := by simpa using hall
    simp [this]

theorem State.setCheck_pass_iff : s.setCheck o set = .pass ↔
    ∀ d ∈ set, (s.district d).base o = true ∧ (s.district d).releaseHolder = 0 := by
  unfold State.setCheck
  split
  next hall =>
    have : ∀ d ∈ set, (s.district d).base o = true := by simpa using hall
    simp +contextual [this]
  next hall =>
    have : ¬ ∀ d ∈ set, (s.district d).base o = true := by simpa using hall
    simp only [reduceCtorEq, false_iff]
    exact fun h => this fun d hd => (h d hd).1

end

/-! ## The check of one district -/

section
variable {s : State} {d : Nat} (o : Origin)

theorem State.districtCheck_released (h : (s.district d).releaseHolder ≠ 0) :
    s.districtCheck o d = if o = .desk (s.district d).releaseHolder then .pass else .localRelease := by
  simp [State.districtCheck, h]

theorem State.districtCheck_unreleased (h : (s.district d).releaseHolder = 0) :
    s.districtCheck o d = if (s.district d).base o = true then .pass else .noAuthority := by
  simp [State.districtCheck, h]

theorem State.pointCheck_present {p : Nat} {r : PointRec} (h : s.pointRec p = some r) :
    s.pointCheck o p = s.districtCheck o r.district := by
  simp [State.pointCheck, h]

end

/-- Settles O41, check by check. The route check is the set check over the route's touched-district set. -/
theorem accessChecksRule : Obligations.AccessChecksRule :=
  ⟨fun w d => ⟨rfl, w.base_desk_iff d, w.base_visitor_iff, fun o n => w.base_releaseHolder n o⟩,
    fun o _ _ _ _ _ => ⟨State.setCheck_noAuthority_iff, State.setCheck_localRelease_iff,
      State.districtCheck_released o, State.districtCheck_unreleased o, State.pointCheck_present o⟩⟩

end Sys2Proof.Machine
end

section
/-! SUPPORT. DISTRICT_ASSIGN, DISTRICT_TAKE and DISTRICT_GIVE_BACK, case by case (R59 to R64). -/

namespace Sys2Proof.Machine

/-! ## The operands -/

theorem within_iff (lo hi v : Nat) : within lo hi v = true ↔ lo ≤ v ∧ v ≤ hi := by simp [within]

theorem within_eq_false (lo hi v : Nat) : within lo hi v = false ↔ v < lo ∨ hi < v := by
  simp only [within, Bool.and_eq_false_iff, decide_eq_false_iff_not, Nat.not_le]

/-- What an origin byte stands for (R174). -/
theorem originOf_cases (b : Byte) : (b.toNat = 0 ∧ originOf b = .auto)
    ∨ (1 ≤ b.toNat ∧ b.toNat ≤ 8 ∧ originOf b = .desk b.toNat) ∨ (8 < b.toNat ∧ originOf b = .other b.toNat) := by
  by_cases auto : b.toNat = 0
  · exact .inl ⟨auto, if_pos auto⟩
  · by_cases desk : b.toNat ≤ 8
    · exact .inr (.inl ⟨by omega, desk, (if_neg auto).trans (if_pos desk)⟩)
    · exact .inr (.inr ⟨by omega, (if_neg auto).trans (if_neg desk)⟩)

theorem originOf_auto_iff (b : Byte) : originOf b = .auto ↔ b.toNat = 0 := by
  obtain ⟨h, e⟩ | ⟨h, -, e⟩ | ⟨h, e⟩ := originOf_cases b <;> simp only [e, reduceCtorEq, true_iff, false_iff] <;> omega

theorem originOf_desk_iff (b : Byte) (d : Nat) : originOf b = .desk d ↔ b.toNat = d ∧ 1 ≤ d ∧ d ≤ 8 := by
  obtain ⟨h, e⟩ | ⟨h, h', e⟩ | ⟨h, e⟩ := originOf_cases b <;>
    simp only [e, reduceCtorEq, Origin.desk.injEq, false_iff] <;> omega

theorem originOf_ne_visitor (b : Byte) : originOf b ≠ .visitor := by
  obtain ⟨-, e⟩ | ⟨-, -, e⟩ | ⟨-, e⟩ := originOf_cases b <;> rw [e] <;> exact Origin.noConfusion

theorem originOf_code (b : Byte) : (originOf b).code = b.toNat := by
  obtain ⟨h, e⟩ | ⟨-, -, e⟩ | ⟨-, e⟩ := originOf_cases b
  · rw [e, h]
    rfl
  · rw [e]
    rfl
  · rw [e]
    rfl

theorem yesNoOf_eq_none_iff (b : Byte) : yesNoOf b = none ↔ 1 < b.toNat := by
  unfold yesNoOf
  split
  · simp only [reduceCtorEq, false_iff]
    omega
  · split <;> simp only [reduceCtorEq, false_iff, true_iff] <;> omega

theorem visitorClassOf_eq_none_iff (b : Byte) : visitorClassOf b = none ↔ 2 < b.toNat := by
  unfold visitorClassOf
  split
  · simp only [reduceCtorEq, false_iff]
    omega
  · split
    · simp only [reduceCtorEq, false_iff]
      omega
    · split <;> simp only [reduceCtorEq, false_iff, true_iff] <;> omega

/-! ## A request that has its effect, and events with nothing left to be done -/

/-- A request that is let through and has its effect replies with the state that the event ends in. -/
theorem serve_effect {kind : Byte} {owner : State → Decision} {c : ResultCode} {s u t : State} (hs : s.Listens)
    (hd : owner (s.taken kind) = effect c u) (hf : finish u = t) : serve kind owner s = .next (t.replied kind c) := by
  subst hf
  exact serve_decision hs hd

theorem settle_of_settleOnce_none {s : State} (h : settleOnce s = none) (n : Nat) (hd : s.NothingDue) :
    settle n s = { s with work := [], rescanDue := false } := by
  have hs : s = { s with work := [], rescanDue := false } := by
    obtain ⟨hw, hr⟩ := hd
    cases s
    simp_all
  cases n with
  | zero => rfl
  | succ n =>
    simp only [settle, h]
    exact hs

/-- Where nothing is left to be done, the end of an event chooses the lamps afresh and does nothing else. -/
theorem finish_rested {s : State} (h : s.Rested) : finish s = s.settled := by
  obtain ⟨⟨hw, hr⟩, hv, ho⟩ := h
  have once : settleOnce s = none := by simp [settleOnce, hw, hr, hv, ho]
  rw [finish, settle_of_settleOnce_none once _ ⟨hw, hr⟩]
  rfl

/-! ## Refusals in their order -/

/-- A refusal that applies where `p` fails comes first, and the others follow it. -/
theorem FirstFailing.ite {κ : Type} {p : Prop} {b : Bool} {k : κ} {rest : List (Prop × κ)} {c : Option κ}
    (hb : b = false ↔ p) (hc : FirstFailing rest c) : FirstFailing ((p, k) :: rest) (if b then some k else c) := by
  constructor
  · intro hp
    have : b = true := by simpa [hp] using hb
    simp [this]
  · intro hp
    simpa [hb.2 hp] using hc

/-- There is one first failing test at most. -/
theorem FirstFailing.unique {κ : Type} {l : List (Prop × κ)} {c d : Option κ} (hc : FirstFailing l c)
    (hd : FirstFailing l d) : c = d := by
  induction l with
  | nil => exact Eq.trans hc hd.symm
  | cons x l ih =>
    by_cases hx : x.1
    · exact ih (hc.2 hx) (hd.2 hx)
    · exact (hc.1 hx).trans (hd.1 hx).symm

/-! ## DISTRICT_ASSIGN -/

section
variable {district owner shared cls origin : Byte} {s : State}

theorem ownDistrictAssign_wrongMode (hm : s.loopRuns = false) :
    ownDistrictAssign district owner shared cls origin s = answer .wrongMode s := by
  simp [ownDistrictAssign, judgeAssign, State.inWork, hm]

theorem ownDistrictAssign_noAuthority (hm : s.loopRuns = true) (ho : origin.toNat ≠ 0) :
    ownDistrictAssign district owner shared cls origin s = answer .noAuthority s := by
  simp [ownDistrictAssign, judgeAssign, State.inWork, hm, originOf_auto_iff, ho]

theorem ownDistrictAssign_badValue (hm : s.loopRuns = true) (ho : origin.toNat = 0)
    (hv : district.toNat < 1 ∨ 8 < district.toNat ∨ 8 < owner.toNat ∨ 1 < shared.toNat ∨ 2 < cls.toNat) :
    ownDistrictAssign district owner shared cls origin s = answer .badValue s := by
  simp only [ownDistrictAssign, judgeAssign, State.inWork, hm, (originOf_auto_iff origin).2 ho]
  cases hsh : yesNoOf shared with
  | none => rfl
  | some sh =>
    cases hc : visitorClassOf cls with
    | none => rfl
    | some c =>
      have sharedGood : ¬ 1 < shared.toNat := by simp [← yesNoOf_eq_none_iff, hsh]
      have clsGood : ¬ 2 < cls.toNat := by simp [← visitorClassOf_eq_none_iff, hc]
      have : within 1 8 district.toNat = false ∨ within 0 8 owner.toNat = false := by
        simp only [within_eq_false]
        omega
      simp [this]

/-- An assignment whose fields are good changes the record, unless it stands so. -/
theorem ownDistrictAssign_good {sh : Bool} {c : VisitorClass} (hm : s.loopRuns = true) (ho : origin.toNat = 0)
    (hd : 1 ≤ district.toNat) (hd' : district.toNat ≤ 8) (hw : owner.toNat ≤ 8) (hsh : yesNoOf shared = some sh)
    (hc : visitorClassOf cls = some c) : ownDistrictAssign district owner shared cls origin s =
      if (s.district district.toNat).owner = owner.toNat ∧ (s.district district.toNat).shared = sh
          ∧ (s.district district.toNat).visitorClass = c then answer .ok s
      else effect .ok (assignDistrict district.toNat owner.toNat sh c s) := by
  have hdw : within 1 8 district.toNat = true := (within_iff ..).2 ⟨hd, hd'⟩
  have hww : within 0 8 owner.toNat = true := (within_iff ..).2 ⟨Nat.zero_le _, hw⟩
  simp [ownDistrictAssign, judgeAssign, State.inWork, hm, (originOf_auto_iff origin).2 ho, hsh, hc, hdw, hww]

/-- With nothing else going on, an assignment writes the record and raises DISTRICT (R60). -/
theorem finish_assignDistrict (d w : Nat) (sh : Bool) (c : VisitorClass) (hq : s.Quiet) :
    finish (assignDistrict d w sh c s) = (raise (districtRecord d .assigned w (visitorClassCode c))
      (s.setDistrict d { s.district d with owner := w, shared := sh, visitorClass := c })).settled := by
  obtain ⟨queue, runner, held, mode⟩ := hq.calm
  have hwork : (assignDistrict d w sh c s).work =
      [.judgeScript, .startExam, .raise (districtRecord d .assigned w (visitorClassCode c))] := by
    simp [assignDistrict, hq.1.1]
  have calm : Calm (assignDistrict d w sh c s) := ⟨queue, runner, held, mode⟩
  rw [finish_calm _ calm (by simp [hwork, Work.isNeutral]), hwork]
  rfl

end

/-! ## What stands against a take or a give-back -/

section
variable {s : State} {d : Nat}

theorem State.readyOrRunning_iff : s.readyOrRunning = true ↔ s.mode = .ready ∨ s.mode = .running := by
  simp [State.readyOrRunning]

theorem State.routeTouches_eq_false {f : RouteState → Bool} : s.routeTouches d f = false ↔
    ∀ e ∈ s.tables.routes, f (s.route e.1).state = true → d ∉ s.routeSet e.1 := by
  simp [State.routeTouches]

theorem State.pointsIn_any_eq_false {f : Nat → Bool} : (s.pointsIn d).any f = false ↔
    ∀ e ∈ s.tables.points, e.2.district = d → f e.1 = false := by
  simp [State.pointsIn]

theorem State.hasOrder_eq_false {p : Nat} : s.hasOrder p = false ↔ (s.point p).order = none := by
  simp [State.hasOrder, PointWork.free]

theorem State.undetected_eq_false {p : Nat} : s.undetected p = false ↔
    s.detected p ≠ .moving ∧ s.detected p ≠ .contactFault ∧ s.detected p ≠ .unknown := by
  unfold State.undetected
  split <;> simp [*]

theorem TtcState.isMoving_iff (t : TtcState) :
    t.isMoving = true ↔ t ∈ [.homing, .unbolting, .moving, .settling, .bolting] := by
  cases t <;> decide

theorem State.deckTurnsIn_eq_false : s.deckTurnsIn d = false ↔
    ∀ k v, s.deckTrack = some k → s.trackRec k = some v → v.district = d →
      s.ttc.state ∉ [.homing, .unbolting, .moving, .settling, .bolting] := by
  simp only [State.deckTurnsIn, Bool.and_eq_false_imp, Option.any_eq_true, Option.bind_eq_some_iff, beq_iff_eq,
    ← TtcState.isMoving_iff, Bool.not_eq_true]
  exact ⟨fun h k v hk hv hd => h ⟨v, ⟨k, hk, hv⟩, hd⟩, fun h ⟨v, ⟨k, hk, hv⟩, hd⟩ => h k v hk hv hd⟩

end

/-! ## DISTRICT_TAKE -/

section
variable {d desk : Nat} {s : State}

theorem takeRefusal_released (h : (s.district d).releaseHolder ≠ 0) : takeRefusal d desk s =
    some (if (s.district d).releaseHolder = desk then .duplicate else .localRelease) := by
  have : (s.district d).released = true := (DistrictWork.released_iff _).2 h
  by_cases hown : (s.district d).releaseHolder = desk <;> simp [takeRefusal, this, hown]

theorem takeRefusal_noAuthority (hd : 1 ≤ desk) (h : (s.district d).releaseHolder = 0)
    (hb : (s.district d).base (.desk desk) = false) : takeRefusal d desk s = some .noAuthority := by
  have : 0 ≠ desk := by omega
  simp [takeRefusal, DistrictWork.released, h, this, hb]

/-- Cases 5 to 9 of R61, where the desk has authority in a district under no release. -/
theorem takeRefusal_firstFailing (hd : 1 ≤ desk) (h : (s.district d).releaseHolder = 0)
    (hb : (s.district d).base (.desk desk) = true) : FirstFailing [
      (∀ e ∈ s.tables.routes, (s.route e.1).state = .setting ∨ (s.route e.1).state = .restoring →
        d ∉ s.routeSet e.1, .busy),
      (∀ e ∈ s.tables.routes, (s.route e.1).state = .locked ∨ (s.route e.1).state = .inUse
        ∨ (s.route e.1).state = .approachLocked → d ∉ s.routeSet e.1, .held),
      (∀ e ∈ s.tables.points, e.2.district = d → (s.point e.1).order = none, .busy),
      (∀ k v, s.deckTrack = some k → s.trackRec k = some v → v.district = d →
        s.ttc.state ∉ [.homing, .unbolting, .moving, .settling, .bolting], .busy),
      (s.vpc.runner.script = 0 ∨ d ∉ s.scriptSet s.vpc.runner.script, .busy)] (takeRefusal d desk s) := by
  have hn : 0 ≠ desk := by omega
  simp only [takeRefusal, DistrictWork.released, h, hb, hn, bne_self_eq_false, Bool.not_true, Bool.false_eq_true,
    if_false]
  refine .ite ?_ (.ite ?_ (.ite ?_ (.ite State.deckTurnsIn_eq_false (.ite ?_ rfl))))
  · simp [State.routeTouches_eq_false]
  · simp [State.routeTouches_eq_false, or_assoc]
  · simp only [State.pointsIn_any_eq_false, State.hasOrder_eq_false]
  · simp [Classical.or_iff_not_imp_left]

/-- A release stands in the way of every check that it does not pass: what passes with it passes without it. -/
theorem State.setCheck_pass_of_taken {o : Origin} {set : List Nat} (hd : desk ≠ 0)
    (h : (s.setDistrict d { s.district d with releaseHolder := desk }).setCheck o set = .pass) :
    s.setCheck o set = .pass := by
  rw [State.setCheck_pass_iff] at h ⊢
  intro x hx
  have hx' := h x hx
  by_cases hxd : x = d
  · subst hxd
    rw [State.district_setDistrict] at hx'
    exact absurd hx'.2 hd
  · rwa [State.district_setDistrict_other _ _ hxd] at hx'

theorem State.admissible_iff {k : Nat} : s.admissible k = true ↔ ∃ r, s.scriptRec k = some r
    ∧ s.scriptCheck k = .pass
    ∧ (State.turnsTable r = false ∨ s.ttc.state ≠ .unhomed ∧ s.ttc.state ≠ .fault) := by
  unfold State.admissible
  split <;> simp [*]

theorem State.startable_eq_none_iff : s.startable = none ↔
    (s.mode = .running ∧ s.vpc.runner.script = 0 → ∀ e ∈ s.vpc.queue, ¬ s.admissible e.script = true) := by
  unfold State.startable
  split
  next hr => simp only [List.find?_eq_none, hr, true_imp_iff, and_self]
  next hr => simp only [hr, false_imp_iff]

theorem takeDistrict_admissible {k : Nat} (hd : desk ≠ 0) (h : (takeDistrict d desk s).admissible k = true) :
    s.admissible k = true := by
  rw [State.admissible_iff] at h ⊢
  obtain ⟨r, hr, hpass, hdeck⟩ := h
  exact ⟨r, hr, State.setCheck_pass_of_taken hd hpass, hdeck⟩

/-- A take starts no script (R62). -/
theorem takeDistrict_startable (hd : desk ≠ 0) (h : s.startable = none) : (takeDistrict d desk s).startable = none := by
  rw [State.startable_eq_none_iff] at h ⊢
  exact fun runs e he ha => h runs e he (takeDistrict_admissible hd ha)

/-- Where nothing is left to be done, nothing follows a take but the choice of the lamps (R62). -/
theorem finish_takeDistrict (hd : desk ≠ 0) (h : s.Rested) :
    finish (takeDistrict d desk s) = (takeDistrict d desk s).settled := by
  obtain ⟨due, script, stopping⟩ := h
  exact finish_rested ⟨due, takeDistrict_startable hd script, stopping⟩

end

section
variable {district origin : Byte} {s : State}

theorem ownDistrictTake_wrongMode (hr : s.mode ≠ .ready) (hn : s.mode ≠ .running) :
    ownDistrictTake district origin s = answer .wrongMode s := by
  simp [ownDistrictTake, State.readyOrRunning, hr, hn]

theorem ownDistrictTake_badOrigin (hm : s.mode = .ready ∨ s.mode = .running) (ho : origin.toNat = 0 ∨ 8 < origin.toNat) :
    ownDistrictTake district origin s = answer .badValue s := by
  simp only [ownDistrictTake, State.readyOrRunning_iff.2 hm, Bool.not_true, Bool.false_eq_true, if_false]
  split
  next desk hdesk =>
    rw [originOf_desk_iff] at hdesk
    omega
  next => rfl

theorem ownDistrictTake_badDistrict (hm : s.mode = .ready ∨ s.mode = .running)
    (hd : district.toNat < 1 ∨ 8 < district.toNat) : ownDistrictTake district origin s = answer .badValue s := by
  simp only [ownDistrictTake, State.readyOrRunning_iff.2 hm, (within_eq_false ..).2 hd]
  cases originOf origin <;> rfl

theorem ownDistrictTake_refused {c : ResultCode} (hm : s.mode = .ready ∨ s.mode = .running) (hd : 1 ≤ district.toNat)
    (hd' : district.toNat ≤ 8) (ho : 1 ≤ origin.toNat) (ho' : origin.toNat ≤ 8)
    (hr : takeRefusal district.toNat origin.toNat s = some c) : ownDistrictTake district origin s = answer c s := by
  simp [ownDistrictTake, State.readyOrRunning_iff.2 hm, (within_iff ..).2 ⟨hd, hd'⟩,
    (originOf_desk_iff origin _).2 ⟨rfl, ho, ho'⟩, hr]

theorem ownDistrictTake_granted (hm : s.mode = .ready ∨ s.mode = .running) (hd : 1 ≤ district.toNat)
    (hd' : district.toNat ≤ 8) (ho : 1 ≤ origin.toNat) (ho' : origin.toNat ≤ 8)
    (hr : takeRefusal district.toNat origin.toNat s = none) :
    ownDistrictTake district origin s = effect .ok (takeDistrict district.toNat origin.toNat s) := by
  simp [ownDistrictTake, State.readyOrRunning_iff.2 hm, (within_iff ..).2 ⟨hd, hd'⟩,
    (originOf_desk_iff origin _).2 ⟨rfl, ho, ho'⟩, hr]

end

/-! ## DISTRICT_GIVE_BACK -/

section
variable {d : Nat} {o : Origin} {s : State}

theorem giveBackRefusal_notSet (h : (s.district d).releaseHolder = 0) : giveBackRefusal d o s = some .notSet := by
  simp [giveBackRefusal, DistrictWork.released, h]

theorem giveBackRefusal_noAuthority (h : (s.district d).releaseHolder ≠ 0) (ho : o ≠ .auto)
    (ho' : o ≠ .desk (s.district d).releaseHolder) : giveBackRefusal d o s = some .noAuthority := by
  simp [giveBackRefusal, DistrictWork.released, h, ho, ho']

/-- Cases 5 and 6 of R63, for an origin that may end the release. -/
theorem giveBackRefusal_firstFailing (h : (s.district d).releaseHolder ≠ 0)
    (ho : o = .auto ∨ o = .desk (s.district d).releaseHolder) : FirstFailing [
      ((∀ e ∈ s.tables.points, e.2.district = d → (s.point e.1).order = none)
        ∧ ∀ k v, s.deckTrack = some k → s.trackRec k = some v → v.district = d →
          s.ttc.state ∉ [.homing, .unbolting, .moving, .settling, .bolting], .busy),
      (∀ e ∈ s.tables.points, e.2.district = d →
        s.detected e.1 ≠ .moving ∧ s.detected e.1 ≠ .contactFault ∧ s.detected e.1 ≠ .unknown,
        .pointsNotDetected)] (giveBackRefusal d o s) := by
  have released : (s.district d).released = true := (DistrictWork.released_iff _).2 h
  have mayEnd : ¬ (o ≠ .auto ∧ o ≠ .desk (s.district d).releaseHolder) :=
    fun other => ho.elim other.1 other.2
  simp only [giveBackRefusal, released, mayEnd, Bool.not_true, Bool.false_eq_true, if_false]
  refine .ite ?_ (.ite ?_ rfl)
  · simp only [Bool.or_eq_false_iff, State.pointsIn_any_eq_false, State.hasOrder_eq_false, State.deckTurnsIn_eq_false]
  · simp only [State.pointsIn_any_eq_false, State.undetected_eq_false]

/-- With nothing else going on, a give-back clears the release and raises DISTRICT (R64). -/
theorem finish_giveBackDistrict (hq : s.Quiet) : finish (giveBackDistrict d o s) =
    (raise (districtRecord d .givenBack (s.district d).releaseHolder o.code)
      (s.setDistrict d { s.district d with releaseHolder := 0 })).settled := by
  obtain ⟨queue, runner, held, mode⟩ := hq.calm
  have hwork : (giveBackDistrict d o s).work =
      [.startExam, .raise (districtRecord d .givenBack (s.district d).releaseHolder o.code)] := by
    simp [giveBackDistrict, hq.1.1]
  have calm : Calm (giveBackDistrict d o s) := ⟨queue, runner, held, mode⟩
  rw [finish_calm _ calm (by simp [hwork, Work.isNeutral]), hwork]
  rfl

end

section
variable {district origin : Byte} {s : State}

theorem ownDistrictGiveBack_wrongMode (hr : s.mode ≠ .ready) (hn : s.mode ≠ .running) :
    ownDistrictGiveBack district origin s = answer .wrongMode s := by
  simp [ownDistrictGiveBack, State.readyOrRunning, hr, hn]

theorem ownDistrictGiveBack_badDistrict (hm : s.mode = .ready ∨ s.mode = .running)
    (hd : district.toNat < 1 ∨ 8 < district.toNat) : ownDistrictGiveBack district origin s = answer .badValue s := by
  simp [ownDistrictGiveBack, State.readyOrRunning_iff.2 hm, (within_eq_false ..).2 hd]

theorem ownDistrictGiveBack_refused {c : ResultCode} (hm : s.mode = .ready ∨ s.mode = .running)
    (hd : 1 ≤ district.toNat) (hd' : district.toNat ≤ 8)
    (hr : giveBackRefusal district.toNat (originOf origin) s = some c) :
    ownDistrictGiveBack district origin s = answer c s := by
  simp [ownDistrictGiveBack, State.readyOrRunning_iff.2 hm, (within_iff ..).2 ⟨hd, hd'⟩, originOf_ne_visitor, hr]

theorem ownDistrictGiveBack_granted (hm : s.mode = .ready ∨ s.mode = .running) (hd : 1 ≤ district.toNat)
    (hd' : district.toNat ≤ 8) (hr : giveBackRefusal district.toNat (originOf origin) s = none) :
    ownDistrictGiveBack district origin s = effect .ok (giveBackDistrict district.toNat (originOf origin) s) := by
  simp [ownDistrictGiveBack, State.readyOrRunning_iff.2 hm, (within_iff ..).2 ⟨hd, hd'⟩, originOf_ne_visitor, hr]

end

/-! ## The three commands -/

/-- Settles O42, command by command and case by case of each owner's decision. The mode, the tables and the records of `s`
are those of the state with the request in service. -/
theorem districtCommands : Obligations.DistrictCommands := by
  intro district owner shared cls origin s hs
  refine ⟨fun hm => serve_decision hs (ownDistrictAssign_wrongMode (s := s.taken _) hm),
    fun hm ho => serve_decision hs (ownDistrictAssign_noAuthority (s := s.taken _) hm ho),
    fun hm ho hv => serve_decision hs (ownDistrictAssign_badValue (s := s.taken _) hm ho hv), ?_,
    fun hr hn => ⟨serve_decision hs (ownDistrictTake_wrongMode (s := s.taken _) hr hn),
      serve_decision hs (ownDistrictGiveBack_wrongMode (s := s.taken _) hr hn)⟩,
    fun hm hd => ⟨serve_decision hs (ownDistrictTake_badDistrict (s := s.taken _) hm hd),
      serve_decision hs (ownDistrictGiveBack_badDistrict (s := s.taken _) hm hd)⟩, ?_⟩
  · intro sh c hm ho hd hd' hw hsh hc
    have good := ownDistrictAssign_good (s := s.taken 0x30#8) hm ho hd hd' hw hsh hc
    exact ⟨fun same => serve_decision hs (good.trans (if_pos same)),
      fun quiet other => serve_effect hs (good.trans (if_neg other))
        (finish_assignDistrict (s := s.taken 0x30#8) _ _ _ _ quiet)⟩
  · intro hm hd hd'
    have takeRefused {c : ResultCode} (ho : 1 ≤ origin.toNat) (ho' : origin.toNat ≤ 8)
        (hr : takeRefusal district.toNat origin.toNat (s.taken 0x31#8) = some c) :
        exec (.districtTake district origin) s = .next ((s.taken 0x31#8).replied 0x31#8 c) :=
      serve_decision hs (ownDistrictTake_refused (s := s.taken 0x31#8) hm hd hd' ho ho' hr)
    have giveBackRefused {c : ResultCode}
        (hr : giveBackRefusal district.toNat (originOf origin) (s.taken 0x32#8) = some c) :
        exec (.districtGiveBack district origin) s = .next ((s.taken 0x32#8).replied 0x32#8 c) :=
      serve_decision hs (ownDistrictGiveBack_refused (s := s.taken 0x32#8) hm hd hd' hr)
    refine ⟨fun ho => serve_decision hs (ownDistrictTake_badOrigin (s := s.taken _) hm ho),
      fun ho ho' hh => takeRefused ho ho' (takeRefusal_released (s := s.taken 0x31#8) hh),
      fun ho ho' hh hb => takeRefused ho ho' (takeRefusal_noAuthority (s := s.taken 0x31#8) ho hh hb), ?_,
      fun hh => giveBackRefused (giveBackRefusal_notSet (s := s.taken 0x32#8) hh), ?_, ?_⟩
    · intro c ho ho' hh hb hc
      obtain rfl : c = takeRefusal district.toNat origin.toNat (s.taken 0x31#8) :=
        hc.unique (takeRefusal_firstFailing (s := s.taken 0x31#8) ho hh hb)
      exact ⟨fun code hr => takeRefused ho ho' hr, fun hr rested =>
        serve_effect hs (ownDistrictTake_granted (s := s.taken 0x31#8) hm hd hd' ho ho' hr)
          (finish_takeDistrict (s := s.taken 0x31#8) (by omega) rested)⟩
    · intro hh ho ho'
      refine giveBackRefused (giveBackRefusal_noAuthority (s := s.taken 0x32#8) hh ?_ ?_)
      · rwa [Ne, originOf_auto_iff]
      · rw [Ne, originOf_desk_iff]
        rintro ⟨own, -, le⟩
        exact ho'.elim (fun gt => by omega) (fun ne => ne own)
    · intro c ho' hh ho hc
      have mayEnd : originOf origin = .auto ∨ originOf origin = .desk (s.district district.toNat).releaseHolder := by
        rw [originOf_auto_iff, originOf_desk_iff]
        omega
      obtain rfl : c = giveBackRefusal district.toNat (originOf origin) (s.taken 0x32#8) :=
        hc.unique (giveBackRefusal_firstFailing (s := s.taken 0x32#8) hh mayEnd)
      refine ⟨fun code hr => giveBackRefused hr, fun hr quiet =>
        serve_effect hs (ownDistrictGiveBack_granted (s := s.taken 0x32#8) hm hd hd' hr) ?_⟩
      rw [finish_giveBackDistrict (s := s.taken 0x32#8) quiet, originOf_code]
      rfl

end Sys2Proof.Machine
end
